-- ==== Sys2Proof/Word.lean ====
section
/-! DEFINITION. The word types of RTCX and the command transaction that the port delivers whole
(spec/30_encoding.md R51). -/

namespace Sys2Proof

/-- 8 bits: a command code, a byte half of HW, the STATUS view. -/
abbrev Byte := BitVec 8

/-- 16 bits: HW, OVF and the 16-bit latches (spec/00_scope.md R8: HW_W = OVF_W = 16). -/
abbrev Half := BitVec 16

/-- 32 bits: ARG, RES and an extended tick (spec/00_scope.md R8: EXT_W = 32). -/
abbrev Word := BitVec 32

/-- One transaction on the command port: format C8, an 8-bit CODE and the 32-bit ARG sent with it (R51). -/
structure Transaction where
  code : Byte
  arg : Word
deriving DecidableEq, Repr, Inhabited

end Sys2Proof
end

