-- ==== Sys2Proof/Config.lean ====
section
/-! DEFINITION. The configuration record of spec/00_scope.md R5, and the one free value of the model:
which agent moves next (R4, R113). -/

namespace Sys2Proof

/-- HOST_BYTE_ORDER, an OPEN parameter that no rule reads (spec/20_memory.md R40). DESIGN CHOICE, safe (log 17): R40
leaves the platform its choice of byte order and of latching and lists no values; that the choice is exactly little or
big, with no latching beside it, is the model's. -/
inductive ByteOrder where
  | little
  | big
deriving DecidableEq, Repr

/-- The configuration record, fixed for the whole run (R5). The last two fields are the OPEN parameters
HOST_BYTE_ORDER and RTCX_BASE (R40, R44), which no rule reads; their domains are DESIGN CHOICE (log 17). -/
structure Config where
  /-- F_HZ, the clock frequency in Hz. -/
  fHz : Nat
  /-- P_REQ, the requested prescaler divisor. -/
  pReq : Nat
  /-- EN_MS: millisecond conversion present. -/
  enMs : Bool
  /-- EN_US: microsecond conversion present. -/
  enUs : Bool
  /-- EN_WIDE: wide (32-bit) extension present. -/
  enWide : Bool
  /-- HW0, the value of HW after reset: a draw with no law (R5, D19). -/
  hw0 : Half
  hostByteOrder : ByteOrder
  rtcxBase : Nat
deriving DecidableEq, Repr

/-- The configuration of `State.reset`: the clock and prescaler of the source's worked example, with every
option present and HW0 = 0. DESIGN CHOICE, unsafe for a claim about `State.reset` alone (log 4, log 5):
`State.resetWith` is the reset state of every configuration. -/
def Config.reference : Config where
  fHz := 8000000
  pReq := 1024
  enMs := true
  enUs := true
  enWide := true
  hw0 := 0
  hostByteOrder := .little
  rtcxBase := 0

/-- One move of one agent (R4): TICK of the TIMER, NOTIFY of the handler, one micro-step of the READER,
or a HOST step (ISSUE of a transaction, RDRES, RDSTAT). -/
inductive Event where
  | tick
  | notify
  | reader
  | issue (tx : Transaction)
  | rdres
  | rdstat
deriving DecidableEq, Repr, Inhabited

/-- FREE VALUE: the move that comes next where no move has been placed. The spec leaves the order of the
agents' steps open ("Any enabled step of any agent may come next", R113, U17), so the n-th such move is a
constant without a body: a claim holds whatever it is (log 2). -/
opaque Config.freeEvent : Nat → Event

end Sys2Proof
end

