-- ==== Sys2Proof/Syntax.lean ====
section
/-! DEFINITION. The commands of RTCX: one constructor per row of spec/opcode_table.json
(spec/30_encoding.md R54). -/

namespace Sys2Proof

/-- A command with the ARG word of its transaction. Every constructor carries ARG, because ISSUE latches it
for every command (R61); only T2MS and T2US read it (R51). -/
inductive Instr where
  /-- 0x01 INIT: initialise (R66). -/
  | init (arg : Word)
  /-- 0x02 READ16: 16-bit safe read (R69). -/
  | read16 (arg : Word)
  /-- 0x03 READW: 32-bit widened read (R77). -/
  | readw (arg : Word)
  /-- 0x04 T2MS: ticks to milliseconds (R92). -/
  | t2ms (arg : Word)
  /-- 0x05 T2US: ticks to microseconds (R93). -/
  | t2us (arg : Word)
  /-- 0x06 NOWMS: read now, in milliseconds (R94). -/
  | nowms (arg : Word)
  /-- 0x07 NOWUS: read now, in microseconds (R95). -/
  | nowus (arg : Word)
deriving DecidableEq, Repr

/-- The ARG word of the command's transaction (R51). -/
def Instr.operand : Instr → Word
  | .init a | .read16 a | .readw a | .t2ms a | .t2us a | .nowms a | .nowus a => a

end Sys2Proof
end

