-- ==== Sys2Proof/WellFormed.lean ====
section
/-! DEFINITION. Well-formed configurations (spec/00_scope.md R7) and the commands a configuration has
(spec/30_encoding.md R54, R56). -/

namespace Sys2Proof

/-- R7: "A configuration is well formed iff 1000 ≤ F_HZ ≤ 2^32 − 1." -/
def Config.wf (c : Config) : Bool :=
  decide (1000 ≤ c.fHz) && decide (c.fHz ≤ 4294967295)

/-- A command is well formed for a configuration iff it is present there: the "present iff" column of R54. -/
def Instr.wf (c : Config) : Instr → Bool
  | .init _ => true
  | .read16 _ => true
  | .readw _ => c.enWide
  | .t2ms _ => c.enMs
  | .t2us _ => c.enUs
  | .nowms _ => c.enMs
  | .nowus _ => c.enUs

end Sys2Proof
end

