-- ==== Sys2Proof/Decode.lean ====
section
/-! DEFINITION. The command decoder, total on every transaction, the decode verdict under a configuration,
the encoder, and the assembler syntax (spec/30_encoding.md R51 to R60). -/

namespace Sys2Proof

/-- Why a transaction is no command: its CODE is reserved, 0x00 or 0x08 to 0xFF (R55). -/
inductive DecodeError where
  | reservedCode (code : Byte)
deriving DecidableEq, Repr

/-- The decode verdict of a CODE under a configuration; R57 gives exactly these three. -/
inductive Verdict where
  | present
  | leftOut
  | reserved
deriving DecidableEq, Repr

/-- The decoder compares all 8 bits of CODE with the opcode map (R52, R54). -/
def decode (tx : Transaction) : Except DecodeError Instr :=
  match tx.code.toNat with
  | 0x01 => .ok (.init tx.arg)
  | 0x02 => .ok (.read16 tx.arg)
  | 0x03 => .ok (.readw tx.arg)
  | 0x04 => .ok (.t2ms tx.arg)
  | 0x05 => .ok (.t2us tx.arg)
  | 0x06 => .ok (.nowms tx.arg)
  | 0x07 => .ok (.nowus tx.arg)
  | _ => .error (.reservedCode tx.code)

/-- The encoding of a command: its CODE of R54 and its ARG word. -/
def encode : Instr → Transaction
  | .init a => ⟨0x01#8, a⟩
  | .read16 a => ⟨0x02#8, a⟩
  | .readw a => ⟨0x03#8, a⟩
  | .t2ms a => ⟨0x04#8, a⟩
  | .t2us a => ⟨0x05#8, a⟩
  | .nowms a => ⟨0x06#8, a⟩
  | .nowus a => ⟨0x07#8, a⟩

/-- A listed CODE is present iff its condition holds (R54), else left out by the configuration (R56). -/
def verdictWhen (enabled : Bool) : Verdict :=
  if enabled then .present else .leftOut

/-- The verdict of R54 to R57 on every 8-bit code. -/
def verdict (c : Config) (code : Byte) : Verdict :=
  match code.toNat with
  | 0x01 => .present
  | 0x02 => .present
  | 0x03 => verdictWhen c.enWide
  | 0x04 => verdictWhen c.enMs
  | 0x05 => verdictWhen c.enUs
  | 0x06 => verdictWhen c.enMs
  | 0x07 => verdictWhen c.enUs
  | _ => .reserved

/-- The transaction whose bits are w, numbered as spec/opcode_table.json numbers them: CODE in bits 7..0 and
ARG counting on from it in bits 39..8; bits at nbits and above are 0 (log 12). -/
def transactionOfBits (nbits w : Nat) : Transaction :=
  ⟨BitVec.ofNat 8 (w % 2 ^ nbits), BitVec.ofNat 32 (w % 2 ^ nbits / 256)⟩

/-- The bits of a transaction in the same numbering: 40 bits, CODE lowest. -/
def bitsOfTransaction (tx : Transaction) : Nat :=
  tx.code.toNat + 256 * tx.arg.toNat

/-- What the decoder reads from the instruction whose bits are w. -/
def decodeTableWord (nbits w : Nat) : Option Instr :=
  (decode (transactionOfBits nbits w)).toOption

/-! ### The assembler syntax of R59. A line is a list of characters, so that the kernel can evaluate it. -/

/-- The value of a hexadecimal digit. -/
def digitValue (c : Char) : Option Nat :=
  if '0' ≤ c ∧ c ≤ '9' then some (c.toNat - 48)
  else if 'a' ≤ c ∧ c ≤ 'f' then some (c.toNat - 87)
  else if 'A' ≤ c ∧ c ≤ 'F' then some (c.toNat - 55)
  else none

/-- The number written by digits of a base, after the digits read so far stood for `acc`. -/
def readDigits (base : Nat) : List Char → Nat → Option Nat
  | [], acc => some acc
  | c :: cs, acc =>
    match digitValue c with
    | some d => if d < base then readDigits base cs (acc * base + d) else none
    | none => none

/-- An unsigned number, decimal or 0x-hexadecimal, with at least one digit. -/
def readNumber : List Char → Option Nat
  | [] => none
  | ['0', 'x'] => none
  | '0' :: 'x' :: cs => readDigits 16 cs 0
  | cs => readDigits 10 cs 0

/-- The words of a line, separated by spaces. -/
def words : List Char → List (List Char)
  | [] => [[]]
  | c :: cs =>
    if c = ' ' then [] :: words cs
    else
      match words cs with
      | [] => [[c]]
      | w :: ws => (c :: w) :: ws

/-- The words of a line that are not empty. -/
def lineWords (line : List Char) : List (List Char) :=
  (words line).filter (fun w => !w.isEmpty)

/-- The commands written without an operand; they assemble with ARG = 0 (R59). -/
def plainMnemonics : List (List Char × Instr) :=
  [(['I', 'N', 'I', 'T'], .init 0), (['R', 'E', 'A', 'D', '1', '6'], .read16 0), (['R', 'E', 'A', 'D', 'W'], .readw 0),
   (['N', 'O', 'W', 'M', 'S'], .nowms 0), (['N', 'O', 'W', 'U', 'S'], .nowus 0)]

/-- T2MS or T2US with an operand n, 0 ≤ n < 2^32, assembling to ARG = n (R59). -/
def assembleConversion (mnemonic : List Char) (n : Nat) : Option Instr :=
  if n < 2 ^ 32 then
    if mnemonic = ['T', '2', 'M', 'S'] then some (.t2ms (BitVec.ofNat 32 n))
    else if mnemonic = ['T', '2', 'U', 'S'] then some (.t2us (BitVec.ofNat 32 n))
    else none
  else none

/-- The command a line of the assembler stands for, if it is one (R59). -/
def assembleLine (line : List Char) : Option Instr :=
  match lineWords line with
  | [m] => plainMnemonics.lookup m
  | [m, '#' :: n] => (readNumber n).bind (assembleConversion m)
  | _ => none

/-- What a listing shows beside the command: its code byte, and its ARG word when the command reads ARG (R59). -/
def listing (i : Instr) : Byte × Option Word :=
  match i with
  | .t2ms a | .t2us a => ((encode i).code, some a)
  | .init _ | .read16 _ | .readw _ | .nowms _ | .nowus _ => ((encode i).code, none)

end Sys2Proof
end

