-- ==== Sys2Proof/Machine/Params.lean ====
section
/-! DEFINITION. The parameters derived from the configuration (spec/00_scope.md R6), the fixed bounds (R8) and
the clock-select code of a divisor (spec/40_control.md R67). -/

namespace Sys2Proof.Machine

/-- P_EFF: P_REQ if it is a supported divisor, else 1024 (R6, C3). -/
def pEff (c : Config) : Nat :=
  if c.pReq = 1 ∨ c.pReq = 8 ∨ c.pReq = 64 ∨ c.pReq = 256 ∨ c.pReq = 1024 then c.pReq else 1024

/-- W: 32 if EN_WIDE else 16 (R6). -/
def width (c : Config) : Nat :=
  if c.enWide then 32 else 16

/-- EXACT: the clock is exactly 1, 2, 4 or 8 MHz (R6). -/
def exactMhz (c : Config) : Bool :=
  decide (c.fHz = 1000000 ∨ c.fHz = 2000000 ∨ c.fHz = 4000000 ∨ c.fHz = 8000000)

/-- F_MHZ = F_HZ div 1000000, meaningful only when EXACT (R6). -/
def fMhz (c : Config) : Nat :=
  c.fHz / 1000000

/-- Q = P_EFF div F_MHZ, a floor quotient, used only when EXACT (R6, R91). -/
def quotient (c : Config) : Nat :=
  pEff c / fMhz c

/-- N_ATT16, the attempts of the 16-bit optimistic read (R8). -/
def attempts16 : Nat := 4

/-- N_ATTW, the attempts of the widened optimistic read (R8, D9). -/
def attemptsW : Nat := 4

/-- psel, the hardware clock-select code of a supported divisor (R67, R15). It is applied only to P_EFF, which
is always supported, so the last line is reached only by 1024 (log 22). -/
def psel (divisor : Nat) : BitVec 3 :=
  match divisor with
  | 1 => 0b001#3
  | 8 => 0b010#3
  | 64 => 0b011#3
  | 256 => 0b100#3
  | _ => 0b101#3

/-- The tick period in seconds, P_EFF / F_HZ as a numerator and a denominator (spec/70_reset_and_hazards.md R137). No
rule reads it: the model has no time. -/
def tickPeriod (c : Config) : Nat × Nat :=
  (pEff c, c.fHz)

/-- The wrap period in seconds, 65536 · P_EFF / F_HZ as a numerator and a denominator (R137). No rule reads it. -/
def wrapPeriod (c : Config) : Nat × Nat :=
  (65536 * pEff c, c.fHz)

end Sys2Proof.Machine
end

