-- ==== Sys2Proof/Machine/State.lean ====
section
/-! DEFINITION. The state of RTCX: every element of spec/10_state.md R14 to R36, the configuration of
spec/00_scope.md R5, and the model's own three fields for the schedule and the HOST; the reset state (R36, R125). -/

namespace Sys2Proof.Machine

/-- PH, the READER's phase: the 14 labels of R27. -/
inductive Phase where
  | idle
  | initX
  | r16H1
  | r16L
  | r16H2
  | r16Sup
  | r16Smp
  | r16Rst
  | wO1
  | wO2
  | wSup
  | wSnp
  | wRst
  | conv
deriving DecidableEq, Repr

/-- The block's own fault codes (spec/60_exceptions.md R102). Raising one is an ordinary next state: the step
writes FLT and nothing else (R103). -/
inductive FaultCode where
  | illegalCmd
  | notInit
  | reinit
  | busy
  | resUnwritten
deriving DecidableEq, Repr

/-- What a HOST read step returned: RES of RDRES (R63) or STATUS of RDSTAT (R64). -/
inductive Reply where
  | res (v : Word)
  | status (v : Byte)
deriving DecidableEq, Repr

/-- Where the machine stops. Both are safe: they stop the model only in states the spec says cannot arise. -/
inductive Fault where
  /-- Raised by TICK when PS holds 110 or 111: "A model faults if it finds them: they cannot arise from reset
  or INIT" (R15). Safe (log 8). -/
  | illegalClockSelect
  /-- Raised by the continuations ret16 and retW when CMD and EN_WIDE are a combination their tables do not
  list: "No other combination of CMD and EN_WIDE reaches `ret16`" (R76, R83). Safe (log 9). -/
  | noContinuation
deriving DecidableEq, Repr

/-- What the model declines to run. -/
inductive Refusal where
  /-- Raised by an arm of `exec` whose command has no meaning yet; no arm of this model uses it. Safe. -/
  | notModelled (mnemonic : String)
  /-- Raised by `step` when the configuration breaks R7: "the configuration is refused (no run exists)".
  Safe (log 11). -/
  | illFormedConfig
deriving DecidableEq, Repr

/-- The state. Field names are the spec's element names in lower case. -/
structure State where
  /-- The configuration record (R5); no step writes it (log 4). -/
  cfg : Config
  /-- HW, the hardware counter (R14). -/
  hw : Half
  /-- PS, the 3-bit clock-select field (R15). -/
  ps : BitVec 3
  /-- OVF, the overflow counter (R16). -/
  ovf : Half
  /-- PEND: the overflow notification is pending (R17). -/
  pend : Bool
  /-- ARMED: the notification channel is armed (R18). -/
  armed : Bool
  /-- SUP: notifications are suppressed (R19). -/
  sup : Bool
  /-- INITD: INIT has completed (R20). -/
  initd : Bool
  /-- BUSY: a command is in progress (R22). -/
  busy : Bool
  /-- RV: RES holds a value (R26). -/
  rv : Bool
  /-- FLT, the sticky 3-bit fault code (R23). -/
  flt : BitVec 3
  /-- CMD, the code of the command in progress (R24). -/
  cmd : Byte
  /-- ARG, the operand latch (R25). -/
  arg : Word
  /-- RES, the result register (R26). -/
  res : Word
  /-- PH, the READER's phase (R27). -/
  ph : Phase
  /-- A, the READ16 attempt counter (R28). -/
  a : Nat
  /-- B, the READWIDE attempt counter (R28). -/
  b : Nat
  /-- H1, the first high byte of an attempt (R29). -/
  h1 : Byte
  /-- LO, the low byte of an attempt (R29). -/
  lo : Byte
  /-- H2, the re-read high byte of an attempt (R29). -/
  h2 : Byte
  /-- V16, the result of the READ16 sub-program (R30). -/
  v16 : Half
  /-- O1, the OVF snapshot of an attempt (R31). -/
  o1 : Half
  /-- O2, the OVF re-check of an attempt (R31). -/
  o2 : Half
  /-- VT, the tick value to convert (R32). -/
  vt : Word
  /-- GW, the ghost wrap count (R33). -/
  gw : Half
  /-- GT16, the ghost truth of the low half (R34). -/
  gt16 : Half
  /-- GTW, the ghost truth of the extended value (R34). -/
  gtw : Word
  /-- HZ_LOST: an overflow was not counted (R35). -/
  hzLost : Bool
  /-- HZ_TORN16: a READ16 attempt accepted a value different from GT16 (R35). -/
  hzTorn16 : Bool
  /-- HZ_TORNW: a READWIDE returned a value different from GTW (R35). -/
  hzTornW : Bool
  /-- The model's own: the moves placed for the coming steps, the next one first (log 2). -/
  agenda : List Event
  /-- The model's own: how many free moves have been drawn (log 2). -/
  drawn : Nat
  /-- The model's own: what the last RDRES or RDSTAT returned to the HOST (log 13). -/
  reply : Option Reply
deriving DecidableEq, Repr

/-- The reset state of a configuration (R36, R125). HW takes HW0. The elements R36 gives no value hold 0
(DESIGN CHOICE, unsafe, log 6): OVF, CMD, ARG, RES, A, B, H1, LO, H2, V16, O1, O2, VT. -/
def State.resetWith (c : Config) : State where
  cfg := c
  hw := c.hw0
  ps := 0#3
  ovf := 0#16
  pend := false
  armed := false
  sup := false
  initd := false
  busy := false
  rv := false
  flt := 0#3
  cmd := 0#8
  arg := 0#32
  res := 0#32
  ph := .idle
  a := 0
  b := 0
  h1 := 0#8
  lo := 0#8
  h2 := 0#8
  v16 := 0#16
  o1 := 0#16
  o2 := 0#16
  vt := 0#32
  gw := 0#16
  gt16 := 0#16
  gtw := 0#32
  hzLost := false
  hzTorn16 := false
  hzTornW := false
  agenda := []
  drawn := 0
  reply := none

/-- The machine right after reset, under the reference configuration (log 4). -/
def State.reset : State :=
  State.resetWith Config.reference

end Sys2Proof.Machine
end

