-- ==== Sys2Proof/Machine/Operands.lean ====
section
/-! DEFINITION. The operands of the READER's steps: the five sample sources of the multiplexer
(spec/00_scope.md R12, spec/20_memory.md R38), the extended tick, and the ARG operand (spec/30_encoding.md R53).
No sample writes anything (R43). -/

namespace Sys2Proof.Machine

/-- The high byte of a 16-bit value, bits 15:8 (R39). -/
def highByte (v : Half) : Byte :=
  v.extractLsb' 8 8

/-- The low byte of a 16-bit value, bits 7:0 (R39). -/
def lowByte (v : Half) : Byte :=
  v.extractLsb' 0 8

/-- Sample(HWH) = HW[15:8]. -/
def sampleHwh (s : State) : Byte :=
  highByte s.hw

/-- Sample(HWL) = HW[7:0]. -/
def sampleHwl (s : State) : Byte :=
  lowByte s.hw

/-- Sample(HW16) = HW, both bytes at one instant. -/
def sampleHw16 (s : State) : Half :=
  s.hw

/-- Sample(OVF) = OVF. -/
def sampleOvf (s : State) : Half :=
  s.ovf

/-- Sample(SNAPW) = (OVF, PEND, HW) at one instant. -/
def sampleSnapw (s : State) : Half × Bool × Half :=
  (s.ovf, s.pend, s.hw)

/-- The bytes of a READ16 candidate, `H1 ++ LO` (R39). -/
def joinBytes (high low : Byte) : Half :=
  high ++ low

/-- The halves of an extended tick, the overflow count in bits 31:16 (R9, R39). -/
def extended (high low : Half) : Word :=
  high ++ low

/-- zext_32 of a 16-bit value (R9). -/
def zext (v : Half) : Word :=
  v.setWidth 32

/-- The true extended value at an instant, `GW ++ HW` (R33). -/
def trueTick (s : State) : Word :=
  extended s.gw s.hw

/-- The overflow count of the SNAPW snapshot, corrected by a pending wrap: `(o + p) mod 2^16` (R81). -/
def correctedOvf (ovf : Half) (pend : Bool) : Half :=
  if pend then ovf + 1#16 else ovf

/-- The operand of T2MS and T2US: `zext_32(ARG mod 2^W)` (R53, R62). -/
def tickOperand (c : Config) (arg : Word) : Word :=
  BitVec.ofNat 32 (arg.toNat % 2 ^ width c)

end Sys2Proof.Machine
end

