-- ==== Sys2Proof/Machine/Flags.lean ====
section
/-! DEFINITION. The flag computations: when each agent's step is enabled (spec/40_control.md R65,
spec/60_exceptions.md R108, R110), the fault codes (R102), the STATUS view (spec/10_state.md R21) and the ghost
hazard flags (R35). -/

namespace Sys2Proof.Machine

/-- The code FLT takes for each fault (R102). -/
def faultBits : FaultCode → BitVec 3
  | .illegalCmd => 1#3
  | .notInit => 2#3
  | .reinit => 3#3
  | .busy => 4#3
  | .resUnwritten => 5#3

/-- FLT = 0: no fault has been raised, so ISSUE, RDRES and the READER are not shut out (R103). -/
def faultFree (s : State) : Bool :=
  s.flt == 0#3

/-- TICK is enabled iff PS ≠ 000, whatever FLT, SUP, BUSY or PH hold (R108). -/
def tickEnabled (s : State) : Bool :=
  s.ps != 0#3

/-- PS holds one of the two codes that are never written (R15). -/
def clockSelectIllegal (s : State) : Bool :=
  s.ps == 0b110#3 || s.ps == 0b111#3

/-- NOTIFY is enabled iff ARMED = 1, PEND = 1 and SUP = 0 (R110). -/
def notifyEnabled (s : State) : Bool :=
  s.armed && s.pend && !s.sup

/-- The READER has a step iff FLT = 0, PH ≠ IDLE and NOTIFY is not enabled (R65, R112). -/
def readerEnabled (s : State) : Bool :=
  faultFree s && s.ph != .idle && !notifyEnabled s

/-- One bit of STATUS. -/
def bit (b : Bool) : BitVec 1 :=
  BitVec.ofBool b

/-- STATUS, bit 7 first: 0, FLT, WIDE, RV, INITD, BUSY (R21). -/
def statusView (s : State) : Byte :=
  bit false ++ s.flt ++ bit s.cfg.enWide ++ bit s.rv ++ bit s.initd ++ bit s.busy

/-- HW stands at its maximum, so the next TICK is a wrap (R108). -/
def atMaximum (s : State) : Bool :=
  s.hw == 0xFFFF#16

/-- HZ_LOST after a wrap: set when the wrap finds PEND = 1 and ARMED = 1 (R109). -/
def lostAfterWrap (s : State) : Bool :=
  s.hzLost || (s.pend && s.armed)

/-- HZ_TORN16 after accepting `v`: set when `v` differs from GT16 (R72). -/
def torn16After (s : State) (v : Half) : Bool :=
  s.hzTorn16 || v != s.gt16

/-- HZ_TORNW after returning `v` where the truth is `truth`: set when they differ (R79, R81). -/
def tornWAfter (s : State) (v truth : Word) : Bool :=
  s.hzTornW || v != truth

end Sys2Proof.Machine
end

