-- ==== Sys2Proof/Machine/Ops.lean ====
section
/-! DEFINITION. The named operations over the state that the commands and the agents share: raising a fault,
taking the overflow notification, `goto` and `complete`, the entries of the sub-programs, ISSUE and the
continuations ret16 and retW. -/

namespace Sys2Proof.Machine

/-- `raise Fault(code)`: FLT takes the code and no other write of the step takes place (R12, R103). -/
def raise (f : FaultCode) (s : State) : State :=
  { s with flt := faultBits f }

/-- Taking the overflow notification: OVF counts the wrap and PEND is acknowledged; nothing is saved (R110, R114).
The return restores nothing either: the READER goes on at the PH it had (R115), so it is no operation. -/
def takeNotification (s : State) : State :=
  { s with ovf := s.ovf + 1#16, pend := false }

/-- `goto PHASE` (R11). -/
def goto (p : Phase) (s : State) : State :=
  { s with ph := p }

/-- `complete()`: BUSY <- 0, PH <- IDLE, RES and RV unchanged (R11). -/
def complete (s : State) : State :=
  { s with busy := false, ph := .idle }

/-- `complete(v)`: RES <- v, RV <- 1, BUSY <- 0, PH <- IDLE (R11). -/
def completeWith (v : Word) (s : State) : State :=
  { s with res := v, rv := true, busy := false, ph := .idle }

/-- `enter16 = (A <- 0; PH <- R16_H1)` (R62). -/
def enter16 (s : State) : State :=
  { s with a := 0, ph := .r16H1 }

/-- `enterW = (B <- 0; PH <- W_O1)` (R62). -/
def enterW (s : State) : State :=
  { s with b := 0, ph := .wO1 }

/-- The entry of a converter command: `VT <- v; PH <- CONV` (R62, R76, R83). -/
def enterConv (v : Word) (s : State) : State :=
  { s with vt := v, ph := .conv }

/-- The entry of NOWMS and NOWUS: `enterW` if EN_WIDE, else `enter16` (R62). -/
def enterNow (s : State) : State :=
  if s.cfg.enWide then enterW s else enter16 s

/-- The latches an accepted ISSUE writes before the first phase: CMD, ARG and BUSY (R61). -/
def accept (code : Byte) (arg : Word) (s : State) : State :=
  { s with cmd := code, arg := arg, busy := true }

/-- The fault ISSUE of a code raises, the first that applies in the order of R61 and R104. -/
def issueFault (code : Byte) (s : State) : Option FaultCode :=
  if s.busy then some .busy
  else if verdict s.cfg code ≠ .present then some .illegalCmd
  else if code = 0x01#8 then (if s.initd then some .reinit else none)
  else if s.initd then none
  else some .notInit

/-- ISSUE(c, a) (R61): where FLT ≠ 0 the HOST has no such step and nothing changes (log 3); where a check fails it
raises that fault; else it latches the command and sets up its first phase (R62). -/
def issue (code : Byte) (arg : Word) (first : State → State) (s : State) :
    Host.Outcome State Fault Refusal :=
  if faultFree s then
    match issueFault code s with
    | some f => .next (raise f s)
    | none => .next (first (accept code arg s))
  else .next s

/-- `ret16(v)`, the continuation of the READ16 sub-program, chosen by CMD and EN_WIDE (R76). -/
def ret16 (v : Half) (s : State) : Host.Outcome State Fault Refusal :=
  if s.cmd = 0x02#8 then .next (completeWith (zext v) s)
  else if s.cfg.enWide then
    if s.cmd = 0x03#8 ∨ s.cmd = 0x06#8 ∨ s.cmd = 0x07#8 then .next (goto .wO2 s)
    else .fault .noContinuation
  else
    if s.cmd = 0x06#8 ∨ s.cmd = 0x07#8 then .next (enterConv (zext v) s)
    else .fault .noContinuation

/-- `retW(v)`, the continuation of the READWIDE sub-program, chosen by CMD (R83). -/
def retW (v : Word) (s : State) : Host.Outcome State Fault Refusal :=
  if s.cmd = 0x03#8 then .next (completeWith v s)
  else if s.cmd = 0x06#8 ∨ s.cmd = 0x07#8 then .next (enterConv v s)
  else .fault .noContinuation

end Sys2Proof.Machine
end

