-- ==== Sys2Proof/Machine/Control.lean ====
section
/-! DEFINITION. INIT (spec/40_control.md R66) and the HOST's read steps RDRES and RDSTAT (R63, R64). -/

namespace Sys2Proof.Machine

/-- ISSUE of INIT: `PH <- INIT_X` (R62, R66). -/
def execInit (arg : Word) (s : State) : Host.Outcome State Fault Refusal :=
  issue 0x01#8 arg (goto .initX) s

/-- What INIT_X writes when EN_WIDE: OVF <- 0, PEND <- 0, ARMED <- 1 (R66). -/
def armOverflow (s : State) : State :=
  if s.cfg.enWide then { s with ovf := 0#16, pend := false, armed := true } else s

/-- INIT_X's other writes before it completes: PS <- psel(P_EFF), INITD <- 1, and the ghost GW <- 0 (R66). -/
def startCounter (s : State) : State :=
  { s with ps := psel (pEff s.cfg), initd := true, gw := 0#16 }

/-- Step INIT_X (R66). HW, RES and RV are not written. -/
def phaseInitX (s : State) : Host.Outcome State Fault Refusal :=
  .next (complete (startCounter (armOverflow s)))

/-- What RDRES does when it is enabled: F_BUSY, then F_RES_UNWRITTEN, else the HOST receives RES (R63). -/
def readResult (s : State) : State :=
  if s.busy then raise .busy s
  else if s.rv then { s with reply := some (.res s.res) }
  else raise .resUnwritten s

/-- RDRES, enabled iff FLT = 0 (R63). -/
def hostRdres (s : State) : Host.Outcome State Fault Refusal :=
  .next (if faultFree s then readResult s else s)

/-- RDSTAT, enabled in every state: the HOST receives STATUS, and no element of the block changes (R64). -/
def hostRdstat (s : State) : Host.Outcome State Fault Refusal :=
  .next { s with reply := some (.status (statusView s)) }

end Sys2Proof.Machine
end

