-- ==== Sys2Proof/Machine/Converter.lean ====
section
/-! DEFINITION. The tick/time converter (spec/42_converter.md R87 to R101): the two functions, exact on naturals,
and the four commands that end in the step CONV. -/

namespace Sys2Proof.Machine

/-- ms(t) before its reduction to W bits (R87). -/
def msExact (c : Config) (t : Nat) : Nat :=
  if exactMhz c then t * quotient c / 1000 else t * 1000 * pEff c / c.fHz

/-- us(t) before its reduction to W bits (R88). -/
def usExact (c : Config) (t : Nat) : Nat :=
  if exactMhz c then t * quotient c else t * 1000 * pEff c / (c.fHz / 1000)

/-- ms(t), reduced mod 2^W (R87, R90). -/
def ms (c : Config) (t : Nat) : Nat :=
  msExact c t % 2 ^ width c

/-- us(t), reduced mod 2^W (R88, R90). -/
def us (c : Config) (t : Nat) : Nat :=
  usExact c t % 2 ^ width c

/-- ISSUE of T2MS: `VT <- zext_32(ARG mod 2^W); PH <- CONV` (R62, R92). -/
def execT2ms (arg : Word) (s : State) : Host.Outcome State Fault Refusal :=
  issue 0x04#8 arg (enterConv (tickOperand s.cfg arg)) s

/-- ISSUE of T2US: `VT <- zext_32(ARG mod 2^W); PH <- CONV` (R62, R93). -/
def execT2us (arg : Word) (s : State) : Host.Outcome State Fault Refusal :=
  issue 0x05#8 arg (enterConv (tickOperand s.cfg arg)) s

/-- ISSUE of NOWMS: the read of R94, widened if EN_WIDE. -/
def execNowms (arg : Word) (s : State) : Host.Outcome State Fault Refusal :=
  issue 0x06#8 arg enterNow s

/-- ISSUE of NOWUS: the read of R95, widened if EN_WIDE. -/
def execNowus (arg : Word) (s : State) : Host.Outcome State Fault Refusal :=
  issue 0x07#8 arg enterNow s

/-- The value CONV stores: ms for CMD 0x04 and 0x06, else us (R96). -/
def converted (s : State) : Word :=
  if s.cmd = 0x04#8 ∨ s.cmd = 0x06#8 then BitVec.ofNat 32 (ms s.cfg s.vt.toNat)
  else BitVec.ofNat 32 (us s.cfg s.vt.toNat)

/-- Step CONV (R96). It reads only VT, CMD and the configuration (R101). -/
def phaseConv (s : State) : Host.Outcome State Fault Refusal :=
  .next (completeWith (converted s) s)

end Sys2Proof.Machine
end

