-- ==== Sys2Proof/Machine/CounterReads.lean ====
section
/-! DEFINITION. READ16 and READWIDE (spec/41_counter_reads.md R69 to R83): the two commands and the READER's
micro-steps, one definition per phase. -/

namespace Sys2Proof.Machine

/-- ISSUE of READ16: `enter16` (R62, R69). -/
def execRead16 (arg : Word) (s : State) : Host.Outcome State Fault Refusal :=
  issue 0x02#8 arg enter16 s

/-- ISSUE of READW: `enterW` (R62, R77). -/
def execReadw (arg : Word) (s : State) : Host.Outcome State Fault Refusal :=
  issue 0x03#8 arg enterW s

/-- Step R16_H1 (R70). -/
def phaseR16H1 (s : State) : Host.Outcome State Fault Refusal :=
  .next (goto .r16L { s with h1 := sampleHwh s })

/-- Step R16_L, with the ghost truth latches (R71). -/
def phaseR16L (s : State) : Host.Outcome State Fault Refusal :=
  .next (goto .r16H2 { s with lo := sampleHwl s, gt16 := s.hw, gtw := trueTick s })

/-- What R16_H2 writes in every case: H2 <- Sample(HWH), A <- A + 1 (R72). -/
def recheck16 (s : State) : State :=
  { s with h2 := sampleHwh s, a := s.a + 1 }

/-- The accept of R16_H2: V16 <- v and the ghost HZ_TORN16 (R72). -/
def accept16 (v : Half) (s : State) : State :=
  { s with v16 := v, hzTorn16 := torn16After s v }

/-- Step R16_H2: accept, retry or fall back (R72). -/
def phaseR16H2 (s : State) : Host.Outcome State Fault Refusal :=
  let r := recheck16 s
  if r.h2 = r.h1 then
    let v := joinBytes r.h1 r.lo
    ret16 v (accept16 v r)
  else if r.a < attempts16 then .next (goto .r16H1 r)
  else .next (goto .r16Sup r)

/-- Step R16_SUP, which enters the suppressed region (R73). -/
def phaseR16Sup (s : State) : Host.Outcome State Fault Refusal :=
  .next (goto .r16Smp { s with sup := true })

/-- Step R16_SMP, one atomic sample of all 16 bits (R74). -/
def phaseR16Smp (s : State) : Host.Outcome State Fault Refusal :=
  .next (goto .r16Rst { s with v16 := sampleHw16 s, gt16 := s.hw, gtw := trueTick s })

/-- Step R16_RST, which leaves the suppressed region (R75). -/
def phaseR16Rst (s : State) : Host.Outcome State Fault Refusal :=
  ret16 s.v16 { s with sup := false }

/-- Step W_O1, the OVF snapshot, then `enter16` (R78). -/
def phaseWO1 (s : State) : Host.Outcome State Fault Refusal :=
  .next (enter16 { s with o1 := sampleOvf s })

/-- What W_O2 writes in every case: O2 <- Sample(OVF), B <- B + 1 (R79). -/
def recheckW (s : State) : State :=
  { s with o2 := sampleOvf s, b := s.b + 1 }

/-- The accept of W_O2: the ghost HZ_TORNW (R79). -/
def acceptW (v : Word) (s : State) : State :=
  { s with hzTornW := tornWAfter s v s.gtw }

/-- Step W_O2: accept, retry or fall back (R79). -/
def phaseWO2 (s : State) : Host.Outcome State Fault Refusal :=
  let r := recheckW s
  if r.o2 = r.o1 then
    let v := extended r.o1 r.v16
    retW v (acceptW v r)
  else if r.b < attemptsW then .next (goto .wO1 r)
  else .next (goto .wSup r)

/-- Step W_SUP, which enters the suppressed region of the wide fallback (R80). -/
def phaseWSup (s : State) : Host.Outcome State Fault Refusal :=
  .next (goto .wSnp { s with sup := true })

/-- The value of the wide fallback's snapshot: `((o + p) mod 2^16) ++ h` (R81). -/
def snapshotTick (s : State) : Word :=
  let (o, p, h) := sampleSnapw s
  extended (correctedOvf o p) h

/-- Step W_SNP, one atomic snapshot, with the ghosts GTW and HZ_TORNW (R81). -/
def phaseWSnp (s : State) : Host.Outcome State Fault Refusal :=
  .next (goto .wRst { s with vt := snapshotTick s, gtw := trueTick s,
                             hzTornW := tornWAfter s (snapshotTick s) (trueTick s) })

/-- Step W_RST, which leaves the suppressed region (R82). -/
def phaseWRst (s : State) : Host.Outcome State Fault Refusal :=
  retW s.vt { s with sup := false }

end Sys2Proof.Machine
end

