-- ==== Sys2Proof/Machine/Agents.lean ====
section
/-! DEFINITION. The steps of the agents TIMER, NOTIFY and READER (spec/00_scope.md R4, spec/60_exceptions.md R108 to
R112, spec/40_control.md R65), the choice of the next move, and the program lines of spec/30_encoding.md R60. A step
that is not enabled changes nothing (log 3). -/

namespace Sys2Proof.Machine

/-- `wrap()` with HW <- 0x0000: GW counts the wrap, HZ_LOST records a lost overflow, PEND <- 1 (R108, R109). -/
def wrapCounter (s : State) : State :=
  { s with hw := 0#16, gw := s.gw + 1#16, hzLost := lostAfterWrap s, pend := true }

/-- A TICK below the maximum: HW <- HW + 1 (R108). -/
def advanceCounter (s : State) : State :=
  { s with hw := s.hw + 1#16 }

/-- What an enabled TICK does to the counter (R108). -/
def countTick (s : State) : State :=
  if atMaximum s then wrapCounter s else advanceCounter s

/-- TICK (R108); it stops the model if PS holds a code that is never written (R15, log 8). -/
def tickStep (s : State) : Host.Outcome State Fault Refusal :=
  if clockSelectIllegal s then .fault .illegalClockSelect
  else if tickEnabled s then .next (countTick s)
  else .next s

/-- NOTIFY (R110). -/
def notifyStep (s : State) : Host.Outcome State Fault Refusal :=
  if notifyEnabled s then .next (takeNotification s) else .next s

/-- The micro-step of the phase PH (R65). At IDLE the READER has none. -/
def microStep (s : State) : Host.Outcome State Fault Refusal :=
  match s.ph with
  | .idle => .next s
  | .initX => phaseInitX s
  | .r16H1 => phaseR16H1 s
  | .r16L => phaseR16L s
  | .r16H2 => phaseR16H2 s
  | .r16Sup => phaseR16Sup s
  | .r16Smp => phaseR16Smp s
  | .r16Rst => phaseR16Rst s
  | .wO1 => phaseWO1 s
  | .wO2 => phaseWO2 s
  | .wSup => phaseWSup s
  | .wSnp => phaseWSnp s
  | .wRst => phaseWRst s
  | .conv => phaseConv s

/-- The READER's step: the micro-step of PH when it has one (R65, R112). -/
def readerStep (s : State) : Host.Outcome State Fault Refusal :=
  if readerEnabled s then microStep s else .next s

/-- ISSUE of a reserved code: the checks of R61 always end in a fault, F_BUSY or F_ILLEGAL_CMD (R55, R105). -/
def issueReserved (tx : Transaction) (s : State) : Host.Outcome State Fault Refusal :=
  issue tx.code tx.arg (fun t => t) s

/-- The next move and the state it runs in: the head of the agenda, taken off it, or a free move (log 2). -/
def nextMove (s : State) : Event × State :=
  match s.agenda with
  | ev :: rest => (ev, { s with agenda := rest })
  | [] => (Config.freeEvent s.drawn, { s with drawn := s.drawn + 1 })

/-- A move placed before those already on the agenda. -/
def placeMove (ev : Event) (s : State) : State :=
  { s with agenda := ev :: s.agenda }

/-- A line of a program in the notation of R59 and R60: a command, a HOST read, or a schedule event. -/
inductive ProgramLine where
  | command (tx : Transaction)
  | rdres
  | rdstat
  | tick (times : Nat)
  | notify
  | step (phase : Phase)
deriving DecidableEq, Repr

/-- The moves a program line stands for: `tick*k` is k TICK steps, `step PHASE` is the READER step that runs
next (R60). -/
def lineMoves : ProgramLine → List Event
  | .command tx => [.issue tx]
  | .rdres => [.rdres]
  | .rdstat => [.rdstat]
  | .tick k => List.replicate k .tick
  | .notify => [.notify]
  | .step _ => [.reader]

/-- A program is placed on the agenda as the moves of its lines, in order (R60). -/
def placeProgram (lines : List ProgramLine) (s : State) : State :=
  { s with agenda := lines.flatMap lineMoves ++ s.agenda }

/-- The name of a phase, as R27 spells it. -/
def phaseNames : List (List Char × Phase) :=
  [(['I', 'D', 'L', 'E'], .idle), (['I', 'N', 'I', 'T', '_', 'X'], .initX),
   (['R', '1', '6', '_', 'H', '1'], .r16H1), (['R', '1', '6', '_', 'L'], .r16L), (['R', '1', '6', '_', 'H', '2'], .r16H2),
   (['R', '1', '6', '_', 'S', 'U', 'P'], .r16Sup), (['R', '1', '6', '_', 'S', 'M', 'P'], .r16Smp),
   (['R', '1', '6', '_', 'R', 'S', 'T'], .r16Rst)] ++
  [(['W', '_', 'O', '1'], .wO1), (['W', '_', 'O', '2'], .wO2), (['W', '_', 'S', 'U', 'P'], .wSup),
   (['W', '_', 'S', 'N', 'P'], .wSnp), (['W', '_', 'R', 'S', 'T'], .wRst), (['C', 'O', 'N', 'V'], .conv)]

/-- The lines of a program that are not commands: host reads and schedule events (R60). -/
def readEventLine (line : List Char) : Option ProgramLine :=
  match lineWords line with
  | [['R', 'D', 'R', 'E', 'S']] => some .rdres
  | [['R', 'D', 'S', 'T', 'A', 'T']] => some .rdstat
  | [['t', 'i', 'c', 'k']] => some (.tick 1)
  | ['t' :: 'i' :: 'c' :: 'k' :: '*' :: k] => (readNumber k).map .tick
  | [['n', 'o', 't', 'i', 'f', 'y']] => some .notify
  | [['s', 't', 'e', 'p'], p] => (phaseNames.lookup p).map .step
  | _ => none

/-- A line of a program (R59, R60). -/
def readProgramLine (line : List Char) : Option ProgramLine :=
  match assembleLine line with
  | some i => some (.command (encode i))
  | none => readEventLine line

end Sys2Proof.Machine
end

