-- ==== Sys2Proof/Machine/Dispatch.lean ====
section
/-! DEFINITION. One arm per command: the ISSUE of that command (spec/40_control.md R61, R62). -/

namespace Sys2Proof.Machine

def exec (i : Instr) (s : State) : Host.Outcome State Fault Refusal :=
  match i with
  | .init arg => Sys2Proof.Machine.execInit arg s
  | .read16 arg => Sys2Proof.Machine.execRead16 arg s
  | .readw arg => Sys2Proof.Machine.execReadw arg s
  | .t2ms arg => Sys2Proof.Machine.execT2ms arg s
  | .t2us arg => Sys2Proof.Machine.execT2us arg s
  | .nowms arg => Sys2Proof.Machine.execNowms arg s
  | .nowus arg => Sys2Proof.Machine.execNowus arg s

end Sys2Proof.Machine
end

