-- ==== Sys2Proof/Machine/Step.lean ====
section
/-! DEFINITION. One transition of the machine: exactly one step of exactly one agent (spec/00_scope.md R4). -/

namespace Sys2Proof.Machine

/-- The HOST's ISSUE of a transaction: decode it and run the command, or the reserved code's ISSUE (R57, R61). -/
def issueTransaction (tx : Transaction) (s : State) : Host.Outcome State Fault Refusal :=
  match decode tx with
  | .ok i => exec i s
  | .error _ => issueReserved tx s

/-- The step an agent takes for a chosen move (R4). -/
def runEvent (ev : Event) (s : State) : Host.Outcome State Fault Refusal :=
  match ev with
  | .tick => tickStep s
  | .notify => notifyStep s
  | .reader => readerStep s
  | .issue tx => issueTransaction tx s
  | .rdres => hostRdres s
  | .rdstat => hostRdstat s

/-- One step: the next move (R113, log 2), run by its agent. An ill-formed configuration has no run (R7). -/
def step (s : State) : Host.Outcome State Fault Refusal :=
  if s.cfg.wf then runEvent (nextMove s).1 (nextMove s).2 else .refused .illFormedConfig

/-- s with the ISSUE of the transaction whose bits are w (numbered as the opcode table numbers them) as the move
that the very next step takes (log 12, log 16). -/
def State.withFetchWord (s : State) (nbits w : Nat) : State :=
  placeMove (.issue (transactionOfBits nbits w)) s

end Sys2Proof.Machine
end

