-- ==== Sys2Proof/Safety.lean ====
section
/-! DEFINITION. The terms in which claims about runs are stated: schedules, the counts of steps along them, the
structural invariant, the clean-entry predicate (spec/70_reset_and_hazards.md R140), the hazard premises HZ-2, HZ-3,
HZ-4 (R131 to R133), step bounds (R138), fairness (spec/60_exceptions.md R123) and the erasure of the ghosts. -/

namespace Sys2Proof.Safety

open Sys2Proof.Machine

/-! ### Schedules -/

/-- The state after the moves of a schedule, or `none` where one of them stops the model. -/
def runSchedule : List Event → State → Option State
  | [], s => some s
  | ev :: evs, s =>
    match runEvent ev s with
    | .next t => runSchedule evs t
    | _ => none

/-- How many moves of a schedule satisfy `counts` in the state they run in. -/
def countAlong (counts : Event → State → Bool) : List Event → State → Nat
  | [], _ => 0
  | ev :: evs, s =>
    (if counts ev s then 1 else 0) +
      match runEvent ev s with
      | .next t => countAlong counts evs t
      | _ => 0

/-- A TICK step is taken by this move. -/
def takesTick (ev : Event) (s : State) : Bool :=
  ev == .tick && tickEnabled s

/-- A NOTIFY step is taken by this move. -/
def takesNotify (ev : Event) (s : State) : Bool :=
  ev == .notify && notifyEnabled s

/-- A READER step is taken by this move. -/
def takesReader (ev : Event) (s : State) : Bool :=
  ev == .reader && readerEnabled s

/-- The TICK steps along a schedule. -/
def ticksTaken (evs : List Event) (s : State) : Nat :=
  countAlong takesTick evs s

/-- The READER steps along a schedule. -/
def readerTaken (evs : List Event) (s : State) : Nat :=
  countAlong takesReader evs s

/-- The move delivers a command transaction. -/
def isIssue : Event → Bool
  | .issue _ => true
  | _ => false

/-- The moves of a schedule whose only HOST moves are RDRES and RDSTAT. -/
def noIssue (evs : List Event) : Prop :=
  ∀ ev ∈ evs, isIssue ev = false

/-! ### Commands -/

/-- The table of R62 row by row: what ISSUE(c, a) writes after CMD, ARG and BUSY. -/
def firstPhase (c : Byte) (w : Word) (s : State) : State :=
  if c = 0x01#8 then { s with ph := .initX }
  else if c = 0x02#8 then { s with a := 0, ph := .r16H1 }
  else if c = 0x03#8 then { s with b := 0, ph := .wO1 }
  else if c = 0x04#8 ∨ c = 0x05#8 then
    { s with vt := BitVec.ofNat 32 (w.toNat % 2 ^ width s.cfg), ph := .conv }
  else if s.cfg.enWide then { s with b := 0, ph := .wO1 }
  else { s with a := 0, ph := .r16H1 }

/-- The state in which a command has just been accepted: its code and operand are latched and BUSY is set (R61). -/
def issued (c : Byte) (w : Word) (s : State) : State :=
  { s with cmd := c, arg := w, busy := true }

/-- The state after a READ16 sub-program whose first attempt accepts the HW value of `s` (R70 to R72, R86(b)). -/
def read16Done (s : State) : State :=
  { s with a := 1, h1 := highByte s.hw, lo := lowByte s.hw, h2 := highByte s.hw, v16 := s.hw,
           gt16 := s.hw, gtw := trueTick s }

/-- The state after a READWIDE sub-program whose first attempt accepts `OVF ++ HW` (R78, R79). -/
def readWideDone (s : State) : State :=
  { read16Done s with b := 1, o1 := s.ovf, o2 := s.ovf,
                      hzTornW := s.hzTornW || (extended s.ovf s.hw != trueTick s) }

/-- The writes of `complete(v)` (R11). -/
def completed (v : Word) (s : State) : State :=
  { s with res := v, rv := true, busy := false, ph := .idle }

/-- The host may issue a command other than INIT and have it accepted: no fault, no command in progress, INIT done
(R61). -/
def acceptsCommands (s : State) : Prop :=
  s.flt = 0#3 ∧ s.busy = false ∧ s.initd = true

/-- A state in which a run may end successfully: FLT = 0 and BUSY = 0. That the host has no further step to take is not
in the block's state (R124). -/
def mayEnd (s : State) : Prop :=
  s.flt = 0#3 ∧ s.busy = false

/-- The tick value a NOWMS or NOWUS converts, by the ghosts: GTW when EN_WIDE, else GT16 (R94). -/
def sampledTruth (s : State) : Word :=
  if s.cfg.enWide then s.gtw else zext s.gt16

/-! ### The structural invariant -/

/-- The phases of the READ16 attempts, where A counts completed attempts (R70 to R72). -/
def attempt16Phase : Phase → Bool
  | .r16H1 | .r16L | .r16H2 => true
  | _ => false

/-- The phases of the READ16 sub-program (R70 to R75). -/
def read16Phase : Phase → Bool
  | .r16H1 | .r16L | .r16H2 | .r16Sup | .r16Smp | .r16Rst => true
  | _ => false

/-- The phases of the READWIDE sub-program outside its READ16 (R78 to R82). -/
def readWidePhase : Phase → Bool
  | .wO1 | .wO2 | .wSup | .wSnp | .wRst => true
  | _ => false

/-- The phases between a SUP <- 1 step and the next SUP <- 0 step (R19, R139). -/
def suppressedPhase : Phase → Bool
  | .r16Smp | .r16Rst | .wSnp | .wRst => true
  | _ => false

/-- The commands that run a READWIDE: READW, and NOWMS, NOWUS when EN_WIDE (R62). -/
def readsWide (c : Config) (cmd : Byte) : Bool :=
  cmd == 0x03#8 || (c.enWide && (cmd == 0x06#8 || cmd == 0x07#8))

/-- The command in CMD has this phase in its micro-program (R62, R66, R69, R77, R92 to R96). -/
def phaseOfCommand (c : Config) (cmd : Byte) (p : Phase) : Bool :=
  if p = .initX then cmd == 0x01#8
  else if p = .conv then cmd == 0x04#8 || cmd == 0x05#8 || cmd == 0x06#8 || cmd == 0x07#8
  else if readWidePhase p then readsWide c cmd
  else if read16Phase p then cmd == 0x02#8 || cmd == 0x03#8 || cmd == 0x06#8 || cmd == 0x07#8
  else true

/-- What holds of the block's elements in every reachable state, whatever the schedule. -/
structure BlockInv (s : State) : Prop where
  /-- BUSY = 1 iff PH ≠ IDLE (R22). -/
  busy_iff : s.busy = true ↔ s.ph ≠ .idle
  /-- FLT never holds 6 or 7 (R23). -/
  flt_le : s.flt.toNat ≤ 5
  /-- PS is stopped before INIT and psel(P_EFF) after it (R15, R66). -/
  ps_eq : s.ps = if s.initd then psel (pEff s.cfg) else 0#3
  /-- ARMED is set by INIT when EN_WIDE and by nothing else (R18). -/
  armed_eq : s.armed = (s.initd && s.cfg.enWide)
  /-- SUP = 1 exactly inside the two suppressed regions (R19, R139). -/
  sup_eq : s.sup = suppressedPhase s.ph
  /-- The command in progress is one the configuration has (R56, R61). -/
  cmd_present : s.ph ≠ .idle → verdict s.cfg s.cmd = .present
  /-- PH is a phase of the command in progress (R62). -/
  cmd_phase : s.ph ≠ .idle → phaseOfCommand s.cfg s.cmd s.ph = true
  /-- INIT_X runs before INITD is set, every other phase after (R61, R66). -/
  initd_phase : s.ph ≠ .idle → (s.initd = true ↔ s.ph ≠ .initX)
  /-- A holds 0 to 4 (R28). -/
  a_le : s.a ≤ 4
  /-- An attempt starts only after fewer than 4 completed attempts (R72). -/
  a_lt : attempt16Phase s.ph = true → s.a ≤ 3
  /-- B holds 0 to 4 (R28). -/
  b_le : s.b ≤ 4
  /-- A READWIDE attempt starts only after fewer than 4 completed attempts (R79). -/
  b_lt : readsWide s.cfg s.cmd = true →
    (s.ph = .wO1 ∨ read16Phase s.ph = true ∨ s.ph = .wO2) → s.b ≤ 3
  /-- VT < 2^W whenever CONV runs (R96). -/
  vt_lt : s.ph = .conv → s.vt.toNat < 2 ^ width s.cfg
  /-- Before INIT the counter keeps HW0 and nothing is pending, counted or returned (R127, R129). -/
  before_init : s.initd = false → s.hw = s.cfg.hw0 ∧ s.pend = false ∧ s.gw = 0#16 ∧ s.rv = false ∧
    s.hzLost = false ∧ s.hzTorn16 = false ∧ s.hzTornW = false

/-- `(OVF + PEND) mod 2^16 = GW` after INIT with EN_WIDE = 1, while HZ_LOST = 0 (R85(a)). -/
def OverflowCounted (s : State) : Prop :=
  s.initd = true → s.cfg.enWide = true → s.hzLost = false → correctedOvf s.ovf s.pend = s.gw

/-! ### Clean entry and the hazard premises -/

/-- CLEAN, the state just after INIT completes (R140), with the structural invariant. CMD still holds INIT's code
(R24, R61). -/
structure Clean (s : State) : Prop where
  inv : BlockInv s
  flt : s.flt = 0#3
  busy : s.busy = false
  ph : s.ph = .idle
  initd : s.initd = true
  sup : s.sup = false
  hzLost : s.hzLost = false
  hzTorn16 : s.hzTorn16 = false
  hzTornW : s.hzTornW = false
  wide : s.cfg.enWide = true → s.armed = true ∧ s.pend = false ∧ s.ovf = 0#16 ∧ s.gw = 0#16
  cmd : s.cmd = 0x01#8

/-- What the hazard premises count along a run. -/
structure Monitor where
  /-- TICK steps since the last R16_H1 (HZ-2). -/
  attemptTicks : Nat
  /-- NOTIFY steps since the last W_O1 (HZ-4). -/
  attemptNotifies : Nat
  /-- TICK steps since the wrap that set PEND, while PEND = 1 (HZ-3). -/
  pendingTicks : Nat
deriving DecidableEq, Repr

/-- A monitor that has counted nothing. -/
def Monitor.start : Monitor where
  attemptTicks := 0
  attemptNotifies := 0
  pendingTicks := 0

/-- The monitor after a move taken in a state. -/
def advanceMonitor (ev : Event) (s : State) (m : Monitor) : Monitor where
  attemptTicks :=
    if takesReader ev s && s.ph == .r16H1 then 0
    else if takesTick ev s then m.attemptTicks + 1 else m.attemptTicks
  attemptNotifies :=
    if takesReader ev s && s.ph == .wO1 then 0
    else if takesNotify ev s then m.attemptNotifies + 1 else m.attemptNotifies
  pendingTicks :=
    if takesTick ev s then (if s.pend then m.pendingTicks + 1 else 0) else m.pendingTicks

/-- The premises HZ-2 (at most 65280 TICK steps between R16_H1 and R16_H2, R131), HZ-3 (fewer than 65536 TICK steps
between a wrap and its NOTIFY, R132) and HZ-4 (fewer than 65536 NOTIFY steps between W_O1 and W_O2, R133), at one
move. None of them mentions a ghost flag. -/
def hazardsKeptAt (ev : Event) (s : State) (m : Monitor) : Bool :=
  (!(takesReader ev s && s.ph == .r16H2) || decide (m.attemptTicks ≤ 65280)) &&
  (!(takesTick ev s && s.armed && s.pend) || decide (m.pendingTicks + 1 < 65536)) &&
  (!(takesReader ev s && s.ph == .wO2) || decide (m.attemptNotifies < 65536))

/-- The premises along a schedule. -/
def hazardsKept : List Event → State → Monitor → Bool
  | [], _, _ => true
  | ev :: evs, s, m =>
    hazardsKeptAt ev s m &&
      match runEvent ev s with
      | .next t => hazardsKept evs t (advanceMonitor ev s m)
      | _ => true

/-! ### Step bounds and fairness -/

/-- The fewest READER steps of a command (R138). -/
def fewestSteps (c : Config) : Instr → Nat
  | .init _ | .t2ms _ | .t2us _ => 1
  | .read16 _ => 3
  | .readw _ => 5
  | .nowms _ | .nowus _ => if c.enWide then 6 else 4

/-- The most READER steps of a command (R138). -/
def mostSteps (c : Config) : Instr → Nat
  | .init _ | .t2ms _ | .t2us _ => 1
  | .read16 _ => 15
  | .readw _ => 71
  | .nowms _ | .nowus _ => if c.enWide then 72 else 16

/-- The states of an infinite schedule; a move that stops the model leaves the state as it is. -/
def trace (schedule : Nat → Event) (s : State) : Nat → State
  | 0 => s
  | n + 1 =>
    match runEvent (schedule n) (trace schedule s n) with
    | .next t => t
    | _ => trace schedule s n

/-- The first `n` moves of an infinite schedule. -/
def firstMoves (schedule : Nat → Event) (n : Nat) : List Event :=
  (List.range n).map schedule

/-- The READER has the step of PH to take, at once or after the NOTIFY that it waits on: FLT = 0 and PH ≠ IDLE, the first
two conjuncts of R65. -/
def readerPending (s : State) : Bool :=
  faultFree s && s.ph != .idle

/-- Weak fairness of one agent's move: enabled from some point on, it is taken again (R123). -/
def WeaklyFair (move : Event) (enabled : State → Bool) (schedule : Nat → Event) (s : State) : Prop :=
  ∀ n, (∀ m, n ≤ m → enabled (trace schedule s m) = true) → ∃ m, n ≤ m ∧ schedule m = move

/-- The weakly fair schedules of R123, for NOTIFY and the READER: an agent that stays enabled, by R110 and R65, eventually
steps. TICK and the HOST need no fairness. -/
structure FairRun (schedule : Nat → Event) (s : State) : Prop where
  /-- NOTIFY is taken if it stays enabled (R110). -/
  notify : WeaklyFair .notify notifyEnabled schedule s
  /-- The READER is taken if it stays enabled (R65). -/
  reader : WeaklyFair .reader readerEnabled schedule s

/-- From the `n`-th move on the READER has a step to take and takes none. -/
def waitsFrom (schedule : Nat → Event) (s : State) (n : Nat) : Prop :=
  ∀ m, n ≤ m → readerPending (trace schedule s m) = true ∧ takesReader (schedule m) (trace schedule s m) = false

/-- "Any number of TICKs may fall between two READER steps" (R113, R108): a number of them, not an endless run of TICKs
while the READER has a step to take and takes none. DEDUCED (log 18). -/
def TicksNumbered (schedule : Nat → Event) (s : State) : Prop :=
  ∀ n, waitsFrom schedule s n → ∃ k, ∀ m, k ≤ m → takesTick (schedule m) (trace schedule s m) = false

/-- "Given that the READER is scheduled" (spec/20_memory.md R49): a step that stays to be taken is taken. -/
def ReaderScheduled (schedule : Nat → Event) (s : State) : Prop :=
  ∀ n, (∀ m, n ≤ m → readerPending (trace schedule s m) = true) →
    ∃ m, n ≤ m ∧ takesReader (schedule m) (trace schedule s m) = true

/-- From some point on the READER waits without end, while TICK and NOTIFY steps go on without end. -/
def Starved (schedule : Nat → Event) (s : State) : Prop :=
  ∃ n, waitsFrom schedule s n ∧
    (∀ k, ∃ m, k ≤ m ∧ takesTick (schedule m) (trace schedule s m) = true) ∧
    (∀ k, ∃ m, k ≤ m ∧ takesNotify (schedule m) (trace schedule s m) = true)

/-- The command accepted in `s` completes, or the host's breach of a duty raises a fault, after no more READER steps than
R86(a) and R138 allow, and where it completes after no fewer. -/
def CompletesWithinBounds (schedule : Nat → Event) (i : Instr) (s : State) : Prop :=
  ∃ n, (mayEnd (trace schedule s n) ∨ (trace schedule s n).flt ≠ 0#3) ∧
    readerTaken (firstMoves schedule n) s ≤ mostSteps s.cfg i ∧
    (mayEnd (trace schedule s n) → fewestSteps s.cfg i ≤ readerTaken (firstMoves schedule n) s)

/-- Strong fairness of one agent's move: enabled again and again, it is taken again while enabled. -/
def StronglyFair (move : Event) (enabled : State → Bool) (schedule : Nat → Event) (s : State) : Prop :=
  (∀ n, ∃ m, n ≤ m ∧ enabled (trace schedule s m) = true) →
    ∀ n, ∃ m, n ≤ m ∧ schedule m = move ∧ enabled (trace schedule s m) = true

/-! ### Erasures -/

/-- The state without its ghosts (R33 to R35). -/
def eraseGhosts (s : State) : State :=
  { s with gw := 0#16, gt16 := 0#16, gtw := 0#32, hzLost := false, hzTorn16 := false, hzTornW := false }

/-- The outcome seen through a map of states. -/
def mapNext (f : State → State) : Host.Outcome State Fault Refusal → Host.Outcome State Fault Refusal
  | .next s => .next (f s)
  | .fault r => .fault r
  | .refused r => .refused r

/-- The state under other values of the OPEN parameters HOST_BYTE_ORDER and RTCX_BASE (R40, R44). -/
def withOpenParameters (order : ByteOrder) (base : Nat) (s : State) : State :=
  { s with cfg := { s.cfg with hostByteOrder := order, rtcxBase := base } }

end Sys2Proof.Safety
end

