-- ==== Sys2Proof/Certificates/Slice0/Obligations.lean ====
section
/-! DEFINITION. The statements about the model, for the provers. Each docstring names the rules of spec/ it follows,
or says that it is the model's own reading. -/

open Sys2Proof Sys2Proof.Machine Sys2Proof.Safety

/-! ### Encoding and decoding -/

/-- Every command's 40 transaction bits decode to that command, with every operand; no bit of any transaction is lost in
the numbering; and where the decoder accepts a transaction, that is the encoding of the command it reads (R51, R52, R54;
the bit numbering is log 12). -/
def Obligations.EncodedCommandDecodesToItself : Prop :=
  (∀ i : Instr, decodeTableWord 40 (bitsOfTransaction (encode i)) = some i) ∧
  (∀ tx : Transaction, transactionOfBits 40 (bitsOfTransaction tx) = tx) ∧
  (∀ (tx : Transaction) (i : Instr), decode tx = .ok i → encode i = tx)

/-- Exactly the codes 0x00 and 0x08 to 0xFF are rejected, by name, and their ISSUE in a fault-free state raises F_BUSY
or F_ILLEGAL_CMD and has no other effect (R55, R104). -/
def Obligations.ReservedCodesOnlyFault : Prop :=
  ∀ (tx : Transaction) (s : State),
    (decode tx = .error (.reservedCode tx.code) ↔ tx.code.toNat = 0 ∨ 8 ≤ tx.code.toNat) ∧
    (tx.code.toNat = 0 ∨ 8 ≤ tx.code.toNat → s.flt = 0#3 →
      issueTransaction tx s = .next (if s.busy then { s with flt := 4#3 } else { s with flt := 1#3 }))

/-- The decode verdict of every code is present, left out by the configuration, or reserved, as the opcode map says;
and a command is well formed for a configuration iff its code is present there (R54, R56, R57). -/
def Obligations.VerdictOfEveryCode : Prop :=
  ∀ (c : Config) (code : Byte),
    (verdict c code = .present ↔
      code = 0x01#8 ∨ code = 0x02#8 ∨ (code = 0x03#8 ∧ c.enWide = true) ∨
      ((code = 0x04#8 ∨ code = 0x06#8) ∧ c.enMs = true) ∨ ((code = 0x05#8 ∨ code = 0x07#8) ∧ c.enUs = true)) ∧
    (verdict c code = .leftOut ↔
      (code = 0x03#8 ∧ c.enWide = false) ∨ ((code = 0x04#8 ∨ code = 0x06#8) ∧ c.enMs = false) ∨
      ((code = 0x05#8 ∨ code = 0x07#8) ∧ c.enUs = false)) ∧
    (verdict c code = .reserved ↔ code.toNat = 0 ∨ 8 ≤ code.toNat) ∧
    (∀ i : Instr, i.wf c = true ↔ verdict c (encode i).code = .present)

/-- A few transactions written out from the opcode map decode to their commands (R51, R54): a sanity statement. -/
def Obligations.SampleTransactionsDecode : Prop :=
  decode ⟨0b00000001#8, 0#32⟩ = .ok (.init 0#32) ∧
  decode ⟨0b00000010#8, 0#32⟩ = .ok (.read16 0#32) ∧
  decode ⟨0b00000011#8, 0xFFFFFFFF#32⟩ = .ok (.readw 0xFFFFFFFF#32) ∧
  decode ⟨0b00000100#8, 0x00001E84#32⟩ = .ok (.t2ms 7812#32) ∧
  decode ⟨0b00000101#8, 0x000003E8#32⟩ = .ok (.t2us 1000#32) ∧
  decode ⟨0b00000110#8, 0#32⟩ = .ok (.nowms 0#32) ∧
  decode ⟨0b00000111#8, 0#32⟩ = .ok (.nowus 0#32)

/-! ### ISSUE -/

/-- ISSUE(c, a) in a fault-free state: the four checks in the order of R61, each writing FLT and nothing else; else CMD,
ARG and BUSY are latched and the first phase of R62 is set up, and nothing else changes. -/
def Obligations.IssueChecksThenStarts : Prop :=
  ∀ (c : Byte) (w : Word) (s : State), s.flt = 0#3 →
    issueTransaction ⟨c, w⟩ s =
      if s.busy then .next { s with flt := 4#3 }
      else if verdict s.cfg c ≠ .present then .next { s with flt := 1#3 }
      else if c = 0x01#8 ∧ s.initd = true then .next { s with flt := 3#3 }
      else if c ≠ 0x01#8 ∧ s.initd = false then .next { s with flt := 2#3 }
      else .next (firstPhase c w (issued c w s))

/-- Where FLT ≠ 0, ISSUE, RDRES and the READER have no step: the model leaves the state as it is (R61, R63, R65, R103;
that a move without a step is a stutter is the model's choice, log 3). -/
def Obligations.FaultedBlockHasNoCommandStep : Prop :=
  ∀ (s : State), s.flt ≠ 0#3 →
    (∀ i : Instr, exec i s = .next s) ∧ (∀ tx : Transaction, runEvent (.issue tx) s = .next s) ∧
    runEvent .rdres s = .next s ∧ runEvent .reader s = .next s

/-- A fault is precise: a step that changes FLT finds FLT = 0, is a HOST step, leaves a code of R102, and writes FLT and
nothing else (R102, R103). -/
def Obligations.FaultsArePrecise : Prop :=
  ∀ (ev : Event) (s t : State), runEvent ev s = .next t → t.flt ≠ s.flt →
    s.flt = 0#3 ∧ t = { s with flt := t.flt } ∧
    (((∃ tx, ev = .issue tx) ∧ 1 ≤ t.flt.toNat ∧ t.flt.toNat ≤ 4) ∨
      (ev = .rdres ∧ (t.flt = 4#3 ∨ t.flt = 5#3)))

/-- FLT is 0 at reset and holds the code of the first fault: no step overwrites or clears it, and a step that changes it
writes one of the codes 1 to 5, never 6 or 7 (R23). -/
def Obligations.FirstFaultSticks : Prop :=
  (∀ c : Config, (State.resetWith c).flt = 0#3) ∧
  (∀ (s t : State), step s = .next t →
    (s.flt ≠ 0#3 → t.flt = s.flt) ∧ (t.flt ≠ s.flt → s.flt = 0#3 ∧ 1 ≤ t.flt.toNat ∧ t.flt.toNat ≤ 5))

/-- ISSUE of INIT is accepted exactly as R61 and R62 say, and its one READER step makes the writes of R66: PS, INITD,
and when EN_WIDE also OVF, PEND and ARMED; GW; BUSY and PH. HW, RES and RV are not written. -/
def Obligations.InitCompletes : Prop :=
  ∀ (w : Word) (s : State), s.flt = 0#3 → s.busy = false → s.initd = false →
    exec (.init w) s = .next { issued 0x01#8 w s with ph := .initX } ∧
    (notifyEnabled s = false →
      runSchedule [.reader] { issued 0x01#8 w s with ph := .initX } =
        some (if s.cfg.enWide then
            { s with cmd := 0x01#8, arg := w, busy := false, ph := .idle, ps := psel (pEff s.cfg), initd := true,
                     gw := 0#16, ovf := 0#16, pend := false, armed := true }
          else
            { s with cmd := 0x01#8, arg := w, busy := false, ph := .idle, ps := psel (pEff s.cfg), initd := true,
                     gw := 0#16 }))

/-- ISSUE of READ16 is accepted, and with no TICK its three READER steps return HW: RES = zext_32(HW) (R69 to R72,
R76, R86(b)). -/
def Obligations.Read16Completes : Prop :=
  ∀ (w : Word) (s : State), acceptsCommands s →
    exec (.read16 w) s = .next { issued 0x02#8 w s with a := 0, ph := .r16H1 } ∧
    (notifyEnabled s = false →
      runSchedule [.reader, .reader, .reader] { issued 0x02#8 w s with a := 0, ph := .r16H1 } =
        some (completed (zext s.hw) (read16Done (issued 0x02#8 w s))))

/-- ISSUE of READW is accepted when EN_WIDE, and with no TICK its five READER steps return `OVF ++ HW` (R77 to R79,
R83). -/
def Obligations.ReadwCompletes : Prop :=
  ∀ (w : Word) (s : State), acceptsCommands s → s.cfg.enWide = true →
    exec (.readw w) s = .next { issued 0x03#8 w s with b := 0, ph := .wO1 } ∧
    (notifyEnabled s = false →
      runSchedule [.reader, .reader, .reader, .reader, .reader] { issued 0x03#8 w s with b := 0, ph := .wO1 } =
        some (completed (extended s.ovf s.hw) (readWideDone (issued 0x03#8 w s))))

/-- ISSUE of T2MS is accepted when EN_MS with VT = ARG mod 2^W, and its one READER step returns ms(VT) (R92, R96). -/
def Obligations.T2msCompletes : Prop :=
  ∀ (w : Word) (s : State), acceptsCommands s → s.cfg.enMs = true →
    exec (.t2ms w) s =
      .next { issued 0x04#8 w s with vt := BitVec.ofNat 32 (w.toNat % 2 ^ width s.cfg), ph := .conv } ∧
    (notifyEnabled s = false →
      runSchedule [.reader]
          { issued 0x04#8 w s with vt := BitVec.ofNat 32 (w.toNat % 2 ^ width s.cfg), ph := .conv } =
        some (completed (BitVec.ofNat 32 (ms s.cfg (w.toNat % 2 ^ width s.cfg)))
          { issued 0x04#8 w s with vt := BitVec.ofNat 32 (w.toNat % 2 ^ width s.cfg) }))

/-- ISSUE of T2US is accepted when EN_US with VT = ARG mod 2^W, and its one READER step returns us(VT) (R93, R96). -/
def Obligations.T2usCompletes : Prop :=
  ∀ (w : Word) (s : State), acceptsCommands s → s.cfg.enUs = true →
    exec (.t2us w) s =
      .next { issued 0x05#8 w s with vt := BitVec.ofNat 32 (w.toNat % 2 ^ width s.cfg), ph := .conv } ∧
    (notifyEnabled s = false →
      runSchedule [.reader]
          { issued 0x05#8 w s with vt := BitVec.ofNat 32 (w.toNat % 2 ^ width s.cfg), ph := .conv } =
        some (completed (BitVec.ofNat 32 (us s.cfg (w.toNat % 2 ^ width s.cfg)))
          { issued 0x05#8 w s with vt := BitVec.ofNat 32 (w.toNat % 2 ^ width s.cfg) }))

/-- ISSUE of NOWMS is accepted when EN_MS; with no TICK it reads HW in four READER steps, or `OVF ++ HW` in six when
EN_WIDE, and returns ms of it (R94, R96). -/
def Obligations.NowmsCompletes : Prop :=
  ∀ (w : Word) (s : State), acceptsCommands s → s.cfg.enMs = true →
    (s.cfg.enWide = false →
      exec (.nowms w) s = .next { issued 0x06#8 w s with a := 0, ph := .r16H1 } ∧
      (notifyEnabled s = false →
        runSchedule (List.replicate 4 .reader) { issued 0x06#8 w s with a := 0, ph := .r16H1 } =
          some (completed (BitVec.ofNat 32 (ms s.cfg s.hw.toNat))
            { read16Done (issued 0x06#8 w s) with vt := zext s.hw }))) ∧
    (s.cfg.enWide = true →
      exec (.nowms w) s = .next { issued 0x06#8 w s with b := 0, ph := .wO1 } ∧
      (notifyEnabled s = false →
        runSchedule (List.replicate 6 .reader) { issued 0x06#8 w s with b := 0, ph := .wO1 } =
          some (completed (BitVec.ofNat 32 (ms s.cfg (extended s.ovf s.hw).toNat))
            { readWideDone (issued 0x06#8 w s) with vt := extended s.ovf s.hw })))

/-- ISSUE of NOWUS is accepted when EN_US; with no TICK it reads HW in four READER steps, or `OVF ++ HW` in six when
EN_WIDE, and returns us of it (R95, R96). -/
def Obligations.NowusCompletes : Prop :=
  ∀ (w : Word) (s : State), acceptsCommands s → s.cfg.enUs = true →
    (s.cfg.enWide = false →
      exec (.nowus w) s = .next { issued 0x07#8 w s with a := 0, ph := .r16H1 } ∧
      (notifyEnabled s = false →
        runSchedule (List.replicate 4 .reader) { issued 0x07#8 w s with a := 0, ph := .r16H1 } =
          some (completed (BitVec.ofNat 32 (us s.cfg s.hw.toNat))
            { read16Done (issued 0x07#8 w s) with vt := zext s.hw }))) ∧
    (s.cfg.enWide = true →
      exec (.nowus w) s = .next { issued 0x07#8 w s with b := 0, ph := .wO1 } ∧
      (notifyEnabled s = false →
        runSchedule (List.replicate 6 .reader) { issued 0x07#8 w s with b := 0, ph := .wO1 } =
          some (completed (BitVec.ofNat 32 (us s.cfg (extended s.ovf s.hw).toNat))
            { readWideDone (issued 0x07#8 w s) with vt := extended s.ovf s.hw })))

/-- The frame of ISSUE: whatever the command and the state, exec answers a next state, and it can differ from the old one
in FLT, CMD, ARG, BUSY, PH, A, B and VT only (R61, R62, R103). -/
def Obligations.IssueFrame : Prop :=
  ∀ (i : Instr) (s : State), ∃ (f : BitVec 3) (c : Byte) (w : Word) (bz : Bool) (p : Phase) (a b : Nat) (v : Word),
    exec i s = .next { s with flt := f, cmd := c, arg := w, busy := bz, ph := p, a := a, b := b, vt := v } ∧
    (f ≠ s.flt → c = s.cmd ∧ w = s.arg ∧ bz = s.busy ∧ p = s.ph ∧ a = s.a ∧ b = s.b ∧ v = s.vt) ∧
    (f = s.flt → bz = s.busy ∨ (bz = true ∧ c = (encode i).code ∧ w = i.operand))

/-! ### The other HOST steps -/

/-- RDRES in a fault-free state: F_BUSY, then F_RES_UNWRITTEN, else the host receives RES and no element of the block
changes (R63; `reply` is the model's record of what the host received, log 13). -/
def Obligations.RdresReturnsTheResult : Prop :=
  ∀ (s : State), s.flt = 0#3 →
    runEvent .rdres s =
      .next (if s.busy then { s with flt := 4#3 }
        else if s.rv = false then { s with flt := 5#3 }
        else { s with reply := some (.res s.res) })

/-- RDSTAT runs in every state and returns STATUS, whose bits are those of R21; no element of the block changes (R21, R64;
`reply` is the model's record of what the host received, log 13). -/
def Obligations.RdstatReturnsTheStatus : Prop :=
  ∀ (s : State),
    runEvent .rdstat s = .next { s with reply := some (.status (statusView s)) } ∧
    (statusView s).getLsbD 0 = s.busy ∧ (statusView s).getLsbD 1 = s.initd ∧ (statusView s).getLsbD 2 = s.rv ∧
    (statusView s).getLsbD 3 = s.cfg.enWide ∧ (statusView s).extractLsb' 4 3 = s.flt ∧
    (statusView s).getLsbD 7 = false

/-! ### One transition -/

/-- A step whose next move is the ISSUE of a transaction that decodes to a command is that command's exec, in the state
with the move taken off the agenda; `withFetchWord` places such a move (R4, R61; the agenda is log 2, log 16). -/
def Obligations.StepRunsTheDecodedCommand : Prop :=
  (∀ (s : State) (tx : Transaction) (i : Instr) (rest : List Event),
    s.cfg.wf = true → s.agenda = .issue tx :: rest → decode tx = .ok i →
      step s = exec i { s with agenda := rest }) ∧
  (∀ (s : State) (nbits w : Nat) (i : Instr),
    s.cfg.wf = true → decodeTableWord nbits w = some i → step (s.withFetchWord nbits w) = exec i s)

/-- A step is exactly one step of one agent, for the move at the head of the agenda or a free move; an ill-formed
configuration has no run (R4, R7, R113; log 2). -/
def Obligations.StepIsOneAgentStep : Prop :=
  ∀ (s : State),
    (s.cfg.wf = false → step s = .refused .illFormedConfig) ∧
    (s.cfg.wf = true →
      (∀ ev rest, s.agenda = ev :: rest → step s = runEvent ev { s with agenda := rest }) ∧
      (s.agenda = [] → step s = runEvent (Config.freeEvent s.drawn) { s with drawn := s.drawn + 1 }))

/-- Running the machine over a placed agenda is running the schedule of those moves, whatever moves they are (log 2). -/
def Obligations.AgendaRunsAsSchedule : Prop :=
  ∀ (evs : List Event) (s t : State), s.cfg.wf = true → runSchedule evs s = some t →
    core.run evs.length { s with agenda := evs } = .next { t with agenda := [] }

/-! ### INIT's parameters -/

/-- psel maps each supported divisor to its own clock-select code, and is applied to P_EFF, which is P_REQ where that is
supported and 1024 else (R6, R67). -/
def Obligations.PrescalerSelection : Prop :=
  psel 1 = 0b001#3 ∧ psel 8 = 0b010#3 ∧ psel 64 = 0b011#3 ∧ psel 256 = 0b100#3 ∧ psel 1024 = 0b101#3 ∧
  (∀ c : Config, pEff c ∈ [1, 8, 64, 256, 1024] ∧ (c.pReq ∈ [1, 8, 64, 256, 1024] → pEff c = c.pReq) ∧
    (c.pReq ∉ [1, 8, 64, 256, 1024] → pEff c = 1024))

/-! ### READ16 -/

/-- Step R16_H1: H1 <- HW[15:8], goto R16_L, nothing else (R70). -/
def Obligations.StepR16H1 : Prop :=
  ∀ (s : State), readerEnabled s = true → s.ph = .r16H1 →
    runEvent .reader s = .next { s with h1 := s.hw.extractLsb' 8 8, ph := .r16L }

/-- Step R16_L: LO <- HW[7:0], the ghosts GT16 <- HW and GTW <- GW ++ HW, goto R16_H2, nothing else (R71). -/
def Obligations.StepR16L : Prop :=
  ∀ (s : State), readerEnabled s = true → s.ph = .r16L →
    runEvent .reader s =
      .next { s with lo := s.hw.extractLsb' 0 8, gt16 := s.hw, gtw := s.gw ++ s.hw, ph := .r16H2 }

/-- Step R16_H2: H2 and A are written; on H2 = H1 the candidate goes to V16, HZ_TORN16 records a torn one and ret16
continues; else the next attempt while A < 4, else the fallback (R72). -/
def Obligations.StepR16H2 : Prop :=
  ∀ (s : State), readerEnabled s = true → s.ph = .r16H2 →
    (s.hw.extractLsb' 8 8 = s.h1 →
      runEvent .reader s =
        ret16 (s.h1 ++ s.lo)
          { s with h2 := s.h1, a := s.a + 1, v16 := s.h1 ++ s.lo,
                   hzTorn16 := s.hzTorn16 || (s.h1 ++ s.lo != s.gt16) }) ∧
    (s.hw.extractLsb' 8 8 ≠ s.h1 → s.a + 1 < 4 →
      runEvent .reader s = .next { s with h2 := s.hw.extractLsb' 8 8, a := s.a + 1, ph := .r16H1 }) ∧
    (s.hw.extractLsb' 8 8 ≠ s.h1 → 4 ≤ s.a + 1 →
      runEvent .reader s = .next { s with h2 := s.hw.extractLsb' 8 8, a := s.a + 1, ph := .r16Sup })

/-- The READ16 fallback: R16_SUP sets SUP, R16_SMP samples all 16 bits at one instant and latches the ghosts, R16_RST
clears SUP and continues with ret16(V16) (R73, R74, R75). -/
def Obligations.StepsOfTheRead16Fallback : Prop :=
  ∀ (s : State), readerEnabled s = true →
    (s.ph = .r16Sup → runEvent .reader s = .next { s with sup := true, ph := .r16Smp }) ∧
    (s.ph = .r16Smp →
      runEvent .reader s = .next { s with v16 := s.hw, gt16 := s.hw, gtw := s.gw ++ s.hw, ph := .r16Rst }) ∧
    (s.ph = .r16Rst → runEvent .reader s = ret16 s.v16 { s with sup := false })

/-! ### READWIDE -/

/-- Steps W_O1 and W_O2: the OVF snapshot with A <- 0; the re-check, which accepts `O1 ++ V16`, records a torn one in
HZ_TORNW, retries while B < 4, and else falls back (R78, R79). -/
def Obligations.StepsOfTheWideAttempt : Prop :=
  ∀ (s : State), readerEnabled s = true →
    (s.ph = .wO1 → runEvent .reader s = .next { s with o1 := s.ovf, a := 0, ph := .r16H1 }) ∧
    (s.ph = .wO2 → s.ovf = s.o1 →
      runEvent .reader s =
        retW (s.o1 ++ s.v16)
          { s with o2 := s.ovf, b := s.b + 1, hzTornW := s.hzTornW || (s.o1 ++ s.v16 != s.gtw) }) ∧
    (s.ph = .wO2 → s.ovf ≠ s.o1 → s.b + 1 < 4 →
      runEvent .reader s = .next { s with o2 := s.ovf, b := s.b + 1, ph := .wO1 }) ∧
    (s.ph = .wO2 → s.ovf ≠ s.o1 → 4 ≤ s.b + 1 →
      runEvent .reader s = .next { s with o2 := s.ovf, b := s.b + 1, ph := .wSup })

/-- The READWIDE fallback: W_SUP sets SUP; W_SNP takes one atomic snapshot, corrects OVF by PEND and latches the ghosts;
W_RST clears SUP and continues with retW(VT) (R80, R81, R82). -/
def Obligations.StepsOfTheWideFallback : Prop :=
  ∀ (s : State), readerEnabled s = true →
    (s.ph = .wSup → runEvent .reader s = .next { s with sup := true, ph := .wSnp }) ∧
    (s.ph = .wSnp → ∀ v : Word, v = (if s.pend then s.ovf + 1#16 else s.ovf) ++ s.hw →
      runEvent .reader s =
        .next { s with vt := v, gtw := s.gw ++ s.hw, hzTornW := s.hzTornW || (v != s.gw ++ s.hw), ph := .wRst }) ∧
    (s.ph = .wRst → runEvent .reader s = retW s.vt { s with sup := false })

/-- The continuations ret16, by CMD and EN_WIDE, and retW, by CMD: the rows of their tables (R76, R83), and the model's
stop on the combinations that the tables say never arise (log 9). -/
def Obligations.Continuations : Prop :=
  (∀ (v : Half) (s : State),
    (s.cmd = 0x02#8 → ret16 v s = .next (completed (v.setWidth 32) s)) ∧
    ((s.cmd = 0x03#8 ∨ s.cmd = 0x06#8 ∨ s.cmd = 0x07#8) → s.cfg.enWide = true →
      ret16 v s = .next { s with ph := .wO2 }) ∧
    ((s.cmd = 0x06#8 ∨ s.cmd = 0x07#8) → s.cfg.enWide = false →
      ret16 v s = .next { s with vt := v.setWidth 32, ph := .conv }) ∧
    ((s.cmd = 0x03#8 ∧ s.cfg.enWide = false) ∨
        (s.cmd ≠ 0x02#8 ∧ s.cmd ≠ 0x03#8 ∧ s.cmd ≠ 0x06#8 ∧ s.cmd ≠ 0x07#8) →
      ret16 v s = .fault .noContinuation)) ∧
  (∀ (v : Word) (s : State),
    (s.cmd = 0x03#8 → retW v s = .next (completed v s)) ∧
    ((s.cmd = 0x06#8 ∨ s.cmd = 0x07#8) → retW v s = .next { s with vt := v, ph := .conv }) ∧
    (s.cmd ≠ 0x03#8 → s.cmd ≠ 0x06#8 → s.cmd ≠ 0x07#8 → retW v s = .fault .noContinuation))

/-! ### The converter -/

/-- Step CONV completes with ms(VT) for CMD 0x04 and 0x06 and with us(VT) for CMD 0x05 and 0x07 (R96). -/
def Obligations.StepConv : Prop :=
  ∀ (s : State), readerEnabled s = true → s.ph = .conv →
    ((s.cmd = 0x04#8 ∨ s.cmd = 0x06#8) →
      runEvent .reader s = .next (completed (BitVec.ofNat 32 (ms s.cfg s.vt.toNat)) s)) ∧
    ((s.cmd = 0x05#8 ∨ s.cmd = 0x07#8) →
      runEvent .reader s = .next (completed (BitVec.ofNat 32 (us s.cfg s.vt.toNat)) s))

/-- The functions ms and us on both paths, exact on naturals and reduced mod 2^W (R6, R87, R88). -/
def Obligations.ConversionFormulas : Prop :=
  ∀ (c : Config) (t : Nat),
    (c.fHz ∈ [1000000, 2000000, 4000000, 8000000] →
      ms c t = t * (pEff c / (c.fHz / 1000000)) / 1000 % 2 ^ (if c.enWide then 32 else 16) ∧
      us c t = t * (pEff c / (c.fHz / 1000000)) % 2 ^ (if c.enWide then 32 else 16)) ∧
    (c.fHz ∉ [1000000, 2000000, 4000000, 8000000] →
      ms c t = t * 1000 * pEff c / c.fHz % 2 ^ (if c.enWide then 32 else 16) ∧
      us c t = t * 1000 * pEff c / (c.fHz / 1000) % 2 ^ (if c.enWide then 32 else 16))

/-- Every intermediate of a W-bit conversion is below 2^52 (below 2^36 for W = 16), every divisor of a well-formed
configuration is at least 1, and a result is W bits wide (R89, R90, R91). -/
def Obligations.ConversionBounds : Prop :=
  ∀ (c : Config) (t : Nat), c.wf = true → t < 2 ^ width c →
    t * 1000 * pEff c < 2 ^ 52 ∧ (c.enWide = false → t * 1000 * pEff c < 2 ^ 36) ∧
    t * quotient c < 2 ^ 52 ∧ 1 ≤ c.fHz ∧ 1 ≤ c.fHz / 1000 ∧ ms c t < 2 ^ width c ∧ us c t < 2 ^ width c

/-- Q is 0 on the exact path exactly for P_EFF = 1 with F_HZ 2, 4 or 8 MHz, and then every result is 0 (R91). -/
def Obligations.ZeroQuotient : Prop :=
  ∀ (c : Config), exactMhz c = true →
    (quotient c = 0 ↔ pEff c = 1 ∧ (c.fHz = 2000000 ∨ c.fHz = 4000000 ∨ c.fHz = 8000000)) ∧
    (quotient c = 0 → ∀ t, ms c t = 0 ∧ us c t = 0)

/-- On the exact path, if t · Q < 2^W then us(t) div 1000 = ms(t); and for W = 16, Q = 128, t = 1000, beyond that
premise, the equality fails (R97). -/
def Obligations.MicrosecondsAgreeWithMilliseconds : Prop :=
  (∀ (c : Config) (t : Nat), exactMhz c = true → t * quotient c < 2 ^ width c → us c t / 1000 = ms c t) ∧
  (∀ (c : Config), c.fHz = 8000000 → c.pReq = 1024 → c.enWide = false →
    us c 1000 = 62464 ∧ us c 1000 / 1000 = 62 ∧ ms c 1000 = 128)

/-- If EXACT and F_MHZ divides P_EFF, the general-path formulas give the exact path's results (R98). -/
def Obligations.PathsAgree : Prop :=
  ∀ (c : Config) (t : Nat), exactMhz c = true → fMhz c ∣ pEff c →
    t * 1000 * pEff c / c.fHz = t * quotient c / 1000 ∧
    t * 1000 * pEff c / (c.fHz / 1000) = t * quotient c

/-- The values before reduction are monotone in t, and so are the results while the larger one needs no reduction
(R99). -/
def Obligations.ConversionMonotone : Prop :=
  ∀ (c : Config) (t₁ t₂ : Nat), t₁ ≤ t₂ →
    msExact c t₁ ≤ msExact c t₂ ∧ usExact c t₁ ≤ usExact c t₂ ∧
    (msExact c t₂ < 2 ^ width c → ms c t₁ ≤ ms c t₂) ∧ (usExact c t₂ < 2 ^ width c → us c t₁ ≤ us c t₂)

/-- An accepted T2MS or T2US returns the conversion of its operand, whatever TICK, NOTIFY and host reads come between:
the converter samples no shared source (R92, R93, R101). -/
def Obligations.ConversionIgnoresTheCounter : Prop :=
  ∀ (w : Word) (s t u : State) (evs : List Event), acceptsCommands s → noIssue evs →
    runSchedule evs t = some u → u.busy = false →
    (s.cfg.enMs = true → exec (.t2ms w) s = .next t →
      u.rv = true ∧ u.res = BitVec.ofNat 32 (ms s.cfg (w.toNat % 2 ^ width s.cfg))) ∧
    (s.cfg.enUs = true → exec (.t2us w) s = .next t →
      u.rv = true ∧ u.res = BitVec.ofNat 32 (us s.cfg (w.toNat % 2 ^ width s.cfg)))

/-! ### TICK and NOTIFY -/

/-- TICK is enabled iff PS ≠ 000, whatever the other elements hold; with PS at a code of R15 it adds 1 to HW, or at 0xFFFF
wraps HW to 0, adds 1 to GW, records a lost overflow and sets PEND; nothing else changes (R108, R109). -/
def Obligations.TickCountsAndWraps : Prop :=
  ∀ (s : State),
    (tickEnabled s = true ↔ s.ps ≠ 0#3) ∧
    (tickEnabled s = true → s.ps ≠ 6#3 → s.ps ≠ 7#3 →
      runEvent .tick s =
        if s.hw = 0xFFFF#16 then
          .next { s with hw := 0x0000#16, gw := s.gw + 1#16, pend := true,
                         hzLost := s.hzLost || (s.pend && s.armed) }
        else .next { s with hw := s.hw + 1#16 })

/-- NOTIFY is enabled iff ARMED = 1, PEND = 1 and SUP = 0, whatever FLT holds; it adds 1 to OVF modulo 2^16 and clears
PEND; PH, the latches and every other element are unchanged (R110). -/
def Obligations.NotifyCountsTheWrap : Prop :=
  ∀ (s : State),
    (notifyEnabled s = true ↔ s.armed = true ∧ s.pend = true ∧ s.sup = false) ∧
    (notifyEnabled s = true → runEvent .notify s = .next { s with ovf := s.ovf + 1#16, pend := false })

/-- NOTIFY has priority over the READER: while it is enabled the READER has no step; and the NOTIFY step itself gives the
READER its step back at the same PH, when FLT = 0 and PH is not IDLE (R65, R112, R115). -/
def Obligations.NotifyGoesFirst : Prop :=
  ∀ (s t : State), notifyEnabled s = true → runEvent .notify s = .next t →
    readerEnabled s = false ∧ t.ph = s.ph ∧ notifyEnabled t = false ∧
    (s.flt = 0#3 → s.ph ≠ .idle → readerEnabled t = true)

/-- A move of an agent that has no step leaves the state as it is (the model's choice, log 3), and a TICK that finds PS at
110 or 111, which are never written, stops the model (R15, log 8). -/
def Obligations.DisabledMovesChangeNothing : Prop :=
  ∀ (s : State),
    (s.ps = 0#3 → runEvent .tick s = .next s) ∧
    (s.ps = 6#3 ∨ s.ps = 7#3 → runEvent .tick s = .fault .illegalClockSelect) ∧
    (notifyEnabled s = false → runEvent .notify s = .next s) ∧
    (readerEnabled s = false → runEvent .reader s = .next s)

/-- Each shared element has exactly its writers: HW: TICK; PEND: TICK (set), NOTIFY (clear), INIT_X (clear, when EN_WIDE);
OVF: NOTIFY (increment), INIT_X (write 0, when EN_WIDE); SUP: the READER's fallback steps; ARMED, PS, INITD: INIT_X (R47).
No step writes the configuration (R5). -/
def Obligations.SingleWriters : Prop :=
  ∀ (ev : Event) (s t : State), runEvent ev s = .next t →
    (t.hw ≠ s.hw → ev = .tick) ∧
    (t.pend ≠ s.pend →
      (ev = .tick ∧ t.pend = true) ∨ (ev = .notify ∧ t.pend = false) ∨
        (ev = .reader ∧ s.ph = .initX ∧ s.cfg.enWide = true ∧ t.pend = false)) ∧
    (t.ovf ≠ s.ovf →
      (ev = .notify ∧ t.ovf = s.ovf + 1#16) ∨
        (ev = .reader ∧ s.ph = .initX ∧ s.cfg.enWide = true ∧ t.ovf = 0#16)) ∧
    (t.sup ≠ s.sup →
      ev = .reader ∧ (s.ph = .r16Sup ∨ s.ph = .r16Rst ∨ s.ph = .wSup ∨ s.ph = .wRst)) ∧
    (t.armed ≠ s.armed ∨ t.ps ≠ s.ps ∨ t.initd ≠ s.initd → ev = .reader ∧ s.ph = .initX) ∧
    t.cfg = s.cfg

/-- No sample has a side effect: a READER step other than INIT_X leaves the counter domain and OVF, PEND, ARMED as they
are, whatever its phase (R14, R43). -/
def Obligations.SamplesHaveNoSideEffect : Prop :=
  ∀ (s t : State), s.ph ≠ .initX → runEvent .reader s = .next t →
    t.hw = s.hw ∧ t.ps = s.ps ∧ t.ovf = s.ovf ∧ t.pend = s.pend ∧ t.armed = s.armed ∧ t.gw = s.gw ∧
    t.initd = s.initd ∧ t.flt = s.flt ∧ t.cmd = s.cmd ∧ t.arg = s.arg ∧ t.reply = s.reply

/-! ### Reset and invariants -/

/-- Reset leaves the values the spec states, for every configuration: HW at the draw HW0, PS at 000, every flag 0, PH at
IDLE, the ghosts 0; and State.reset is the reset of the reference configuration (R36, R125, R126; the configuration of
State.reset is the model's choice, log 4). -/
def Obligations.ResetValues : Prop :=
  (∀ (c : Config) (s : State), s = State.resetWith c →
    s.cfg = c ∧ s.hw = c.hw0 ∧ s.ps = 0#3 ∧ s.pend = false ∧
    s.armed = false ∧ s.sup = false ∧ s.initd = false ∧ s.busy = false ∧ s.rv = false ∧ s.flt = 0#3 ∧ s.ph = .idle ∧
    s.gw = 0#16 ∧ s.gt16 = 0#16 ∧ s.gtw = 0#32 ∧ s.hzLost = false ∧ s.hzTorn16 = false ∧ s.hzTornW = false) ∧
  State.reset = State.resetWith Config.reference

/-- The structural invariant holds at reset, for every configuration (R36, R126). -/
def Obligations.InvariantAtReset : Prop :=
  ∀ c : Config, BlockInv (State.resetWith c)

/-- Every step keeps the structural invariant, whatever the state, the agenda and the free moves: BUSY = 1 iff PH ≠ IDLE
(R22), FLT at most 5 (R23), PS and ARMED as INIT leaves them (R15, R18), SUP = 1 exactly inside the suppressed regions
(R19), the attempt counters within 0 to 4 (R28), CMD fitting PH, VT < 2^W at CONV (R96). -/
def Obligations.EveryStepKeepsTheInvariant : Prop :=
  ∀ s t : State, BlockInv s → step s = .next t → BlockInv t

/-- In a state that meets the invariant no step stops the model: READER, TICK and NOTIFY never fault, and a host step that
raises a fault is a next state (R7, R102). -/
def Obligations.NoStepStopsTheModel : Prop :=
  ∀ s : State, BlockInv s → s.cfg.wf = true → ∃ t, step s = .next t

/-- The overflow invariant: after INIT with EN_WIDE = 1, while HZ_LOST = 0, (OVF + PEND) mod 2^16 = GW; every step keeps
it, and INIT_X establishes it (R85(a)). -/
def Obligations.OverflowInvariantKept : Prop :=
  (∀ s t : State, BlockInv s → OverflowCounted s → step s = .next t → OverflowCounted t) ∧
  (∀ s t : State, s.ph = .initX → readerEnabled s = true → runEvent .reader s = .next t → OverflowCounted t)

/-- A READER step with SUP = 0 sees PEND = 0 and OVF = GW, and W_SNP returns exactly GW ++ HW and sets no hazard flag,
while HZ_LOST = 0 (R85(b), R85(c)). -/
def Obligations.ReaderSeesEveryWrap : Prop :=
  ∀ s : State, BlockInv s → OverflowCounted s → s.hzLost = false → s.initd = true → s.cfg.enWide = true →
    readerEnabled s = true →
    (s.sup = false → s.pend = false ∧ s.ovf = s.gw) ∧
    (s.ph = .wSnp → ∃ t, runEvent .reader s = .next t ∧ t.vt = s.gw ++ s.hw ∧ t.hzTornW = s.hzTornW)

/-! ### Runs -/

/-- READ16 attempt soundness: if at most 65280 TICK steps fall between the R16_H1 and the R16_H2 of an attempt and the
attempt accepts, the candidate is the value of HW at its R16_L step, and HZ_TORN16 is not set by it (R84, R131). -/
def Obligations.Read16AttemptSound : Prop :=
  ∀ (s s₀ s₁ s₂ u t : State) (evs₁ evs₂ : List Event),
    s.busy = true → s.ph = .r16H1 → readerEnabled s = true → runEvent .reader s = .next s₀ →
    (∀ ev ∈ evs₁ ++ evs₂, ev ≠ .reader) →
    runSchedule evs₁ s₀ = some s₁ → readerEnabled s₁ = true → runEvent .reader s₁ = .next s₂ →
    runSchedule evs₂ s₂ = some u → readerEnabled u = true → runEvent .reader u = .next t →
    ticksTaken evs₁ s₀ + ticksTaken evs₂ s₂ ≤ 65280 → sampleHwh u = u.h1 →
    u.h1 ++ u.lo = s₁.hw ∧ u.gt16 = s₁.hw ∧ t.v16 = s₁.hw ∧ t.hzTorn16 = s.hzTorn16

/-- Torn-free reads: from a clean entry, along every schedule that keeps the premises HZ-2, HZ-3 and HZ-4, no overflow is
lost and no torn value is returned, and a completed READ16, READW, NOWMS or NOWUS holds the value (or the conversion of
the value) that was true at its sample step (R84, R85, R140). -/
def Obligations.TornFreeUnderTheHazardPremises : Prop :=
  ∀ (s u : State) (evs : List Event), Clean s → runSchedule evs s = some u →
    hazardsKept evs s Monitor.start = true →
    u.hzLost = false ∧ u.hzTorn16 = false ∧ u.hzTornW = false ∧
    (u.busy = false →
      (u.cmd = 0x02#8 → u.res = zext u.gt16) ∧ (u.cmd = 0x03#8 → u.res = u.gtw) ∧
      (u.cmd = 0x06#8 → u.res = BitVec.ofNat 32 (ms u.cfg (sampledTruth u).toNat)) ∧
      (u.cmd = 0x07#8 → u.res = BitVec.ofNat 32 (us u.cfg (sampledTruth u).toNat)))

/-- After INIT the true extended value GW ++ HW advances by exactly the number of TICK steps, modulo 2^32, along every
schedule (R33, R86(c), R134). -/
def Obligations.TrueTickCountsEveryTick : Prop :=
  ∀ (s u : State) (evs : List Event), BlockInv s → s.initd = true → runSchedule evs s = some u →
    trueTick u = trueTick s + BitVec.ofNat 32 (ticksTaken evs s)

/-- Monotone widened reads: from a clean entry under the hazard premises and without a wraparound of the 32-bit value,
a READW completed later never returns less than one completed before (R86(c), R134). -/
def Obligations.WideReadsAreMonotone : Prop :=
  ∀ (s u v : State) (evs₁ evs₂ : List Event), Clean s → s.cfg.enWide = true →
    runSchedule evs₁ s = some u → runSchedule evs₂ u = some v →
    hazardsKept (evs₁ ++ evs₂) s Monitor.start = true →
    (trueTick s).toNat + ticksTaken (evs₁ ++ evs₂) s < 2 ^ 32 →
    u.cmd = 0x03#8 → u.busy = false → v.cmd = 0x03#8 → v.busy = false → u.res.toNat ≤ v.res.toNat

/-- Idempotence: a READ16 accepted from any state that meets the invariant returns HW and takes three READER steps if no
TICK step falls within it, whatever else does (R43, R86(b)). -/
def Obligations.Read16IsIdempotentWithoutTicks : Prop :=
  ∀ (w : Word) (s t u : State) (evs : List Event), BlockInv s → acceptsCommands s → exec (.read16 w) s = .next t →
    noIssue evs → runSchedule evs t = some u → ticksTaken evs t = 0 → u.busy = false →
    u.res = zext s.hw ∧ u.rv = true ∧ u.hw = s.hw ∧ u.hzTorn16 = s.hzTorn16 ∧ readerTaken evs t = 3

/-- Step bounds: an accepted command takes at most the READER steps of R138's last column before it completes, whatever
TICK and NOTIFY do, and a completed one took at least those of its first (R86(a), R138). -/
def Obligations.CommandsTakeBoundedReaderSteps : Prop :=
  ∀ (i : Instr) (s t u : State) (evs : List Event), BlockInv s → s.busy = false → exec i s = .next t → t.busy = true →
    noIssue evs → runSchedule evs t = some u →
    readerTaken evs t ≤ mostSteps s.cfg i ∧ (u.busy = false → fewestSteps s.cfg i ≤ readerTaken evs t)

/-- Progress under strong fairness: on every infinite schedule that is weakly fair to NOTIFY and strongly fair to the
READER's condition of R65, a command in progress completes, or the host breaks its duty and raises a fault (R49, R124;
strong fairness is the model's own premise, beside R123's, log 18). -/
def Obligations.CommandsCompleteUnderStrongFairness : Prop :=
  ∀ (schedule : Nat → Event) (s : State), BlockInv s → s.flt = 0#3 → s.busy = true →
    WeaklyFair .notify notifyEnabled schedule s → StronglyFair .reader readerEnabled schedule s →
    ∃ n, mayEnd (trace schedule s n) ∨ (trace schedule s n).flt ≠ 0#3

/-- Progress under the weak fairness of R123, for every accepted command. (1) It completes, or the host breaks its duty and
raises a fault, within the bounds of R86(a) and R138, where only a number of TICKs falls between two READER steps (R113;
that this means no endless run is DEDUCED, log 18). (2) So it does where the READER is scheduled (R49). (3) Without either
premise it does so, or the READER is starved: it waits for good while TICK and NOTIFY steps go on without end. (4) A
command in progress completes where EN_WIDE = 0, where it is INIT, or where finitely many NOTIFY steps are taken. -/
def Obligations.CommandsCompleteUnderWeakFairness : Prop :=
  (∀ (schedule : Nat → Event) (i : Instr) (s₀ s : State), BlockInv s₀ → s₀.busy = false → exec i s₀ = .next s →
    s.busy = true → FairRun schedule s →
    (TicksNumbered schedule s → CompletesWithinBounds schedule i s) ∧
    (ReaderScheduled schedule s → CompletesWithinBounds schedule i s) ∧
    (CompletesWithinBounds schedule i s ∨ Starved schedule s)) ∧
  (∀ (schedule : Nat → Event) (s : State), BlockInv s → s.flt = 0#3 → s.busy = true → FairRun schedule s →
    (s.cfg.enWide = false ∨ s.initd = false ∨
      ∃ n, ∀ m, n ≤ m → takesNotify (schedule m) (trace schedule s m) = false) →
    ∃ n, mayEnd (trace schedule s n) ∨ (trace schedule s n).flt ≠ 0#3)

/-- Where TICKs fall without end between two READER steps, R123's weak fairness completes no command: with 65536 TICK steps
and one NOTIFY step by turns the READER is never enabled for good (R65, R108, R112). Read without a limit on the TICKs
between two READER steps, R123's last sentence would deny this: here the model departs from that sentence, which
contradicts those three rules, by its own reading (log 18). -/
def Obligations.WeakFairnessAloneDoesNotComplete : Prop :=
  ∃ (schedule : Nat → Event) (s : State), BlockInv s ∧ s.cfg.wf = true ∧ s.flt = 0#3 ∧ s.busy = true ∧
    WeaklyFair .notify notifyEnabled schedule s ∧ WeaklyFair .reader readerEnabled schedule s ∧
    ∀ n, (trace schedule s n).busy = true ∧ (trace schedule s n).flt = 0#3

/-- The ghosts are read by no hardware rule: a step of the state without its ghosts does, but for the ghosts, what a step
of the state does (section 6 of 10_state.md, D29). -/
def Obligations.GhostsChangeNoBehaviour : Prop :=
  ∀ s : State, mapNext eraseGhosts (step (eraseGhosts s)) = mapNext eraseGhosts (step s)

/-- The OPEN parameters HOST_BYTE_ORDER and RTCX_BASE are read by no rule: other values of them change no step but for
the parameters themselves (R40, R44). -/
def Obligations.OpenParametersChangeNoBehaviour : Prop :=
  ∀ (order : ByteOrder) (base : Nat) (s : State),
    step (withOpenParameters order base s) = mapNext (withOpenParameters order base) (step s)
end

