-- ==== Sys2Proof/Laws/Fairness.lean ====
section
/-! SUPPORT. How the fairness of spec/60_exceptions.md R123 stands to the enabling condition of spec/40_control.md R65. -/

namespace Sys2Proof.Safety

open Sys2Proof.Machine

/-- The READER has a step iff one is to be taken and NOTIFY is not enabled (R65, R112). -/
theorem readerEnabled_eq_pending (s : State) : readerEnabled s = (readerPending s && !notifyEnabled s) := rfl

/-- A READER step that is to be taken either can run or waits on NOTIFY (R123). -/
theorem readerPending_cases {s : State} (h : readerPending s = true) :
    readerEnabled s = true ∨ notifyEnabled s = true := by
  rw [readerEnabled_eq_pending, h]
  cases notifyEnabled s <;> simp

/-- A READER step is taken by the READER's move where it is enabled, and by nothing else. -/
theorem takesReader_iff (ev : Event) (s : State) :
    takesReader ev s = true ↔ ev = .reader ∧ readerEnabled s = true := by
  simp [takesReader]

/-- Where the READER is scheduled, it is treated weakly fairly (R49, R123). -/
theorem weaklyFair_reader_of_scheduled {schedule : Nat → Event} {s : State} (h : ReaderScheduled schedule s) :
    WeaklyFair .reader readerEnabled schedule s := by
  intro n he
  obtain ⟨m, hm, ht⟩ := h n fun m hm => by
    have hm := he m hm
    rw [readerEnabled_eq_pending, Bool.and_eq_true] at hm
    exact hm.1
  exact ⟨m, hm, ((takesReader_iff _ _).1 ht).1⟩

/-- Only a number of TICKs between two READER steps rules starvation out (R113). -/
theorem not_starved_of_ticksNumbered {schedule : Nat → Event} {s : State} (h : TicksNumbered schedule s) :
    ¬Starved schedule s := by
  rintro ⟨n, hw, ht, -⟩
  obtain ⟨k, hk⟩ := h n hw
  obtain ⟨m, hm, hm'⟩ := ht k
  rw [hk m hm] at hm'
  cases hm'

/-- A scheduled READER is not starved (R49). -/
theorem not_starved_of_scheduled {schedule : Nat → Event} {s : State} (h : ReaderScheduled schedule s) :
    ¬Starved schedule s := by
  rintro ⟨n, hw, -, -⟩
  obtain ⟨m, hm, ht⟩ := h n fun m hm => (hw m hm).1
  rw [(hw m hm).2] at ht
  cases ht

end Sys2Proof.Safety
end

