-- ==== Sys2Proof/Laws/Operands.lean ====
section
/-! SUPPORT. The byte and half arithmetic of the samples: `a ++ b = a * 2^n + b` (spec/00_scope.md R9), and a value is
the join of its two bytes (spec/20_memory.md R39). -/

namespace Sys2Proof.Machine

/-- The high byte as a number. -/
theorem highByte_toNat (v : Half) : (highByte v).toNat = v.toNat / 256 := by
  have := v.isLt
  simp only [highByte, BitVec.extractLsb'_toNat, Nat.shiftRight_eq_div_pow]
  omega

/-- The low byte as a number. -/
theorem lowByte_toNat (v : Half) : (lowByte v).toNat = v.toNat % 256 := by
  simp [lowByte]

/-- Two joined bytes as a number (R9). -/
theorem joinBytes_toNat (h l : Byte) : (joinBytes h l).toNat = h.toNat * 256 + l.toNat := by
  have hl := l.isLt
  refine (BitVec.toNat_append h l).trans ?_
  rw [← Nat.shiftLeft_add_eq_or_of_lt hl, Nat.shiftLeft_eq]

/-- An extended tick as a number (R9). -/
theorem extended_toNat (h l : Half) : (extended h l).toNat = h.toNat * 65536 + l.toNat := by
  have hl := l.isLt
  refine (BitVec.toNat_append h l).trans ?_
  rw [← Nat.shiftLeft_add_eq_or_of_lt hl, Nat.shiftLeft_eq]

/-- A 16-bit value is the join of its high and low bytes (R39). -/
theorem joinBytes_highByte_lowByte (v : Half) : joinBytes (highByte v) (lowByte v) = v := by
  apply BitVec.eq_of_toNat_eq
  rw [joinBytes_toNat, highByte_toNat, lowByte_toNat]
  omega

/-- Equal extended ticks have equal halves. -/
theorem extended_inj {h l h' l' : Half} : extended h l = extended h' l' ↔ h = h' ∧ l = l' := by
  refine ⟨fun e => ?_, by rintro ⟨rfl, rfl⟩; rfl⟩
  have e' := congrArg BitVec.toNat e
  have := l.isLt
  have := l'.isLt
  rw [extended_toNat, extended_toNat] at e'
  exact ⟨BitVec.eq_of_toNat_eq (by omega), BitVec.eq_of_toNat_eq (by omega)⟩

/-- Zero extension keeps the value (R9). -/
theorem zext_toNat (v : Half) : (zext v).toNat = v.toNat := by
  have := v.isLt
  simp only [zext, BitVec.toNat_setWidth]
  omega

/-- The snapshot's overflow count without a pending wrap (R81). -/
@[simp] theorem correctedOvf_false (o : Half) : correctedOvf o false = o := rfl

/-- The snapshot's overflow count with a pending wrap (R81). -/
@[simp] theorem correctedOvf_true (o : Half) : correctedOvf o true = o + 1#16 := rfl

end Sys2Proof.Machine
end

