-- ==== Sys2Proof/Laws/State.lean ====
section
/-! SUPPORT. For each named update of the state, what every field holds after it: one lemma per field, true by rfl.
No later proof needs to unfold a record update. -/

namespace Sys2Proof.Machine

/-! ### raise -/

@[simp] theorem raise_cfg (f : FaultCode) (s : State) : (raise f s).cfg = s.cfg := rfl
@[simp] theorem raise_hw (f : FaultCode) (s : State) : (raise f s).hw = s.hw := rfl
@[simp] theorem raise_ps (f : FaultCode) (s : State) : (raise f s).ps = s.ps := rfl
@[simp] theorem raise_ovf (f : FaultCode) (s : State) : (raise f s).ovf = s.ovf := rfl
@[simp] theorem raise_pend (f : FaultCode) (s : State) : (raise f s).pend = s.pend := rfl
@[simp] theorem raise_armed (f : FaultCode) (s : State) : (raise f s).armed = s.armed := rfl
@[simp] theorem raise_sup (f : FaultCode) (s : State) : (raise f s).sup = s.sup := rfl
@[simp] theorem raise_initd (f : FaultCode) (s : State) : (raise f s).initd = s.initd := rfl
@[simp] theorem raise_busy (f : FaultCode) (s : State) : (raise f s).busy = s.busy := rfl
@[simp] theorem raise_rv (f : FaultCode) (s : State) : (raise f s).rv = s.rv := rfl
@[simp] theorem raise_flt (f : FaultCode) (s : State) : (raise f s).flt = faultBits f := rfl
@[simp] theorem raise_cmd (f : FaultCode) (s : State) : (raise f s).cmd = s.cmd := rfl
@[simp] theorem raise_arg (f : FaultCode) (s : State) : (raise f s).arg = s.arg := rfl
@[simp] theorem raise_res (f : FaultCode) (s : State) : (raise f s).res = s.res := rfl
@[simp] theorem raise_ph (f : FaultCode) (s : State) : (raise f s).ph = s.ph := rfl
@[simp] theorem raise_a (f : FaultCode) (s : State) : (raise f s).a = s.a := rfl
@[simp] theorem raise_b (f : FaultCode) (s : State) : (raise f s).b = s.b := rfl
@[simp] theorem raise_h1 (f : FaultCode) (s : State) : (raise f s).h1 = s.h1 := rfl
@[simp] theorem raise_lo (f : FaultCode) (s : State) : (raise f s).lo = s.lo := rfl
@[simp] theorem raise_h2 (f : FaultCode) (s : State) : (raise f s).h2 = s.h2 := rfl
@[simp] theorem raise_v16 (f : FaultCode) (s : State) : (raise f s).v16 = s.v16 := rfl
@[simp] theorem raise_o1 (f : FaultCode) (s : State) : (raise f s).o1 = s.o1 := rfl
@[simp] theorem raise_o2 (f : FaultCode) (s : State) : (raise f s).o2 = s.o2 := rfl
@[simp] theorem raise_vt (f : FaultCode) (s : State) : (raise f s).vt = s.vt := rfl
@[simp] theorem raise_gw (f : FaultCode) (s : State) : (raise f s).gw = s.gw := rfl
@[simp] theorem raise_gt16 (f : FaultCode) (s : State) : (raise f s).gt16 = s.gt16 := rfl
@[simp] theorem raise_gtw (f : FaultCode) (s : State) : (raise f s).gtw = s.gtw := rfl
@[simp] theorem raise_hzLost (f : FaultCode) (s : State) : (raise f s).hzLost = s.hzLost := rfl
@[simp] theorem raise_hzTorn16 (f : FaultCode) (s : State) : (raise f s).hzTorn16 = s.hzTorn16 := rfl
@[simp] theorem raise_hzTornW (f : FaultCode) (s : State) : (raise f s).hzTornW = s.hzTornW := rfl
@[simp] theorem raise_agenda (f : FaultCode) (s : State) : (raise f s).agenda = s.agenda := rfl
@[simp] theorem raise_drawn (f : FaultCode) (s : State) : (raise f s).drawn = s.drawn := rfl
@[simp] theorem raise_reply (f : FaultCode) (s : State) : (raise f s).reply = s.reply := rfl

/-! ### takeNotification -/

@[simp] theorem takeNotification_cfg (s : State) : (takeNotification s).cfg = s.cfg := rfl
@[simp] theorem takeNotification_hw (s : State) : (takeNotification s).hw = s.hw := rfl
@[simp] theorem takeNotification_ps (s : State) : (takeNotification s).ps = s.ps := rfl
@[simp] theorem takeNotification_ovf (s : State) : (takeNotification s).ovf = s.ovf + 1#16 := rfl
@[simp] theorem takeNotification_pend (s : State) : (takeNotification s).pend = false := rfl
@[simp] theorem takeNotification_armed (s : State) : (takeNotification s).armed = s.armed := rfl
@[simp] theorem takeNotification_sup (s : State) : (takeNotification s).sup = s.sup := rfl
@[simp] theorem takeNotification_initd (s : State) : (takeNotification s).initd = s.initd := rfl
@[simp] theorem takeNotification_busy (s : State) : (takeNotification s).busy = s.busy := rfl
@[simp] theorem takeNotification_rv (s : State) : (takeNotification s).rv = s.rv := rfl
@[simp] theorem takeNotification_flt (s : State) : (takeNotification s).flt = s.flt := rfl
@[simp] theorem takeNotification_cmd (s : State) : (takeNotification s).cmd = s.cmd := rfl
@[simp] theorem takeNotification_arg (s : State) : (takeNotification s).arg = s.arg := rfl
@[simp] theorem takeNotification_res (s : State) : (takeNotification s).res = s.res := rfl
@[simp] theorem takeNotification_ph (s : State) : (takeNotification s).ph = s.ph := rfl
@[simp] theorem takeNotification_a (s : State) : (takeNotification s).a = s.a := rfl
@[simp] theorem takeNotification_b (s : State) : (takeNotification s).b = s.b := rfl
@[simp] theorem takeNotification_h1 (s : State) : (takeNotification s).h1 = s.h1 := rfl
@[simp] theorem takeNotification_lo (s : State) : (takeNotification s).lo = s.lo := rfl
@[simp] theorem takeNotification_h2 (s : State) : (takeNotification s).h2 = s.h2 := rfl
@[simp] theorem takeNotification_v16 (s : State) : (takeNotification s).v16 = s.v16 := rfl
@[simp] theorem takeNotification_o1 (s : State) : (takeNotification s).o1 = s.o1 := rfl
@[simp] theorem takeNotification_o2 (s : State) : (takeNotification s).o2 = s.o2 := rfl
@[simp] theorem takeNotification_vt (s : State) : (takeNotification s).vt = s.vt := rfl
@[simp] theorem takeNotification_gw (s : State) : (takeNotification s).gw = s.gw := rfl
@[simp] theorem takeNotification_gt16 (s : State) : (takeNotification s).gt16 = s.gt16 := rfl
@[simp] theorem takeNotification_gtw (s : State) : (takeNotification s).gtw = s.gtw := rfl
@[simp] theorem takeNotification_hzLost (s : State) : (takeNotification s).hzLost = s.hzLost := rfl
@[simp] theorem takeNotification_hzTorn16 (s : State) : (takeNotification s).hzTorn16 = s.hzTorn16 := rfl
@[simp] theorem takeNotification_hzTornW (s : State) : (takeNotification s).hzTornW = s.hzTornW := rfl
@[simp] theorem takeNotification_agenda (s : State) : (takeNotification s).agenda = s.agenda := rfl
@[simp] theorem takeNotification_drawn (s : State) : (takeNotification s).drawn = s.drawn := rfl
@[simp] theorem takeNotification_reply (s : State) : (takeNotification s).reply = s.reply := rfl

/-! ### goto -/

@[simp] theorem goto_cfg (p : Phase) (s : State) : (goto p s).cfg = s.cfg := rfl
@[simp] theorem goto_hw (p : Phase) (s : State) : (goto p s).hw = s.hw := rfl
@[simp] theorem goto_ps (p : Phase) (s : State) : (goto p s).ps = s.ps := rfl
@[simp] theorem goto_ovf (p : Phase) (s : State) : (goto p s).ovf = s.ovf := rfl
@[simp] theorem goto_pend (p : Phase) (s : State) : (goto p s).pend = s.pend := rfl
@[simp] theorem goto_armed (p : Phase) (s : State) : (goto p s).armed = s.armed := rfl
@[simp] theorem goto_sup (p : Phase) (s : State) : (goto p s).sup = s.sup := rfl
@[simp] theorem goto_initd (p : Phase) (s : State) : (goto p s).initd = s.initd := rfl
@[simp] theorem goto_busy (p : Phase) (s : State) : (goto p s).busy = s.busy := rfl
@[simp] theorem goto_rv (p : Phase) (s : State) : (goto p s).rv = s.rv := rfl
@[simp] theorem goto_flt (p : Phase) (s : State) : (goto p s).flt = s.flt := rfl
@[simp] theorem goto_cmd (p : Phase) (s : State) : (goto p s).cmd = s.cmd := rfl
@[simp] theorem goto_arg (p : Phase) (s : State) : (goto p s).arg = s.arg := rfl
@[simp] theorem goto_res (p : Phase) (s : State) : (goto p s).res = s.res := rfl
@[simp] theorem goto_ph (p : Phase) (s : State) : (goto p s).ph = p := rfl
@[simp] theorem goto_a (p : Phase) (s : State) : (goto p s).a = s.a := rfl
@[simp] theorem goto_b (p : Phase) (s : State) : (goto p s).b = s.b := rfl
@[simp] theorem goto_h1 (p : Phase) (s : State) : (goto p s).h1 = s.h1 := rfl
@[simp] theorem goto_lo (p : Phase) (s : State) : (goto p s).lo = s.lo := rfl
@[simp] theorem goto_h2 (p : Phase) (s : State) : (goto p s).h2 = s.h2 := rfl
@[simp] theorem goto_v16 (p : Phase) (s : State) : (goto p s).v16 = s.v16 := rfl
@[simp] theorem goto_o1 (p : Phase) (s : State) : (goto p s).o1 = s.o1 := rfl
@[simp] theorem goto_o2 (p : Phase) (s : State) : (goto p s).o2 = s.o2 := rfl
@[simp] theorem goto_vt (p : Phase) (s : State) : (goto p s).vt = s.vt := rfl
@[simp] theorem goto_gw (p : Phase) (s : State) : (goto p s).gw = s.gw := rfl
@[simp] theorem goto_gt16 (p : Phase) (s : State) : (goto p s).gt16 = s.gt16 := rfl
@[simp] theorem goto_gtw (p : Phase) (s : State) : (goto p s).gtw = s.gtw := rfl
@[simp] theorem goto_hzLost (p : Phase) (s : State) : (goto p s).hzLost = s.hzLost := rfl
@[simp] theorem goto_hzTorn16 (p : Phase) (s : State) : (goto p s).hzTorn16 = s.hzTorn16 := rfl
@[simp] theorem goto_hzTornW (p : Phase) (s : State) : (goto p s).hzTornW = s.hzTornW := rfl
@[simp] theorem goto_agenda (p : Phase) (s : State) : (goto p s).agenda = s.agenda := rfl
@[simp] theorem goto_drawn (p : Phase) (s : State) : (goto p s).drawn = s.drawn := rfl
@[simp] theorem goto_reply (p : Phase) (s : State) : (goto p s).reply = s.reply := rfl

/-! ### complete -/

@[simp] theorem complete_cfg (s : State) : (complete s).cfg = s.cfg := rfl
@[simp] theorem complete_hw (s : State) : (complete s).hw = s.hw := rfl
@[simp] theorem complete_ps (s : State) : (complete s).ps = s.ps := rfl
@[simp] theorem complete_ovf (s : State) : (complete s).ovf = s.ovf := rfl
@[simp] theorem complete_pend (s : State) : (complete s).pend = s.pend := rfl
@[simp] theorem complete_armed (s : State) : (complete s).armed = s.armed := rfl
@[simp] theorem complete_sup (s : State) : (complete s).sup = s.sup := rfl
@[simp] theorem complete_initd (s : State) : (complete s).initd = s.initd := rfl
@[simp] theorem complete_busy (s : State) : (complete s).busy = false := rfl
@[simp] theorem complete_rv (s : State) : (complete s).rv = s.rv := rfl
@[simp] theorem complete_flt (s : State) : (complete s).flt = s.flt := rfl
@[simp] theorem complete_cmd (s : State) : (complete s).cmd = s.cmd := rfl
@[simp] theorem complete_arg (s : State) : (complete s).arg = s.arg := rfl
@[simp] theorem complete_res (s : State) : (complete s).res = s.res := rfl
@[simp] theorem complete_ph (s : State) : (complete s).ph = .idle := rfl
@[simp] theorem complete_a (s : State) : (complete s).a = s.a := rfl
@[simp] theorem complete_b (s : State) : (complete s).b = s.b := rfl
@[simp] theorem complete_h1 (s : State) : (complete s).h1 = s.h1 := rfl
@[simp] theorem complete_lo (s : State) : (complete s).lo = s.lo := rfl
@[simp] theorem complete_h2 (s : State) : (complete s).h2 = s.h2 := rfl
@[simp] theorem complete_v16 (s : State) : (complete s).v16 = s.v16 := rfl
@[simp] theorem complete_o1 (s : State) : (complete s).o1 = s.o1 := rfl
@[simp] theorem complete_o2 (s : State) : (complete s).o2 = s.o2 := rfl
@[simp] theorem complete_vt (s : State) : (complete s).vt = s.vt := rfl
@[simp] theorem complete_gw (s : State) : (complete s).gw = s.gw := rfl
@[simp] theorem complete_gt16 (s : State) : (complete s).gt16 = s.gt16 := rfl
@[simp] theorem complete_gtw (s : State) : (complete s).gtw = s.gtw := rfl
@[simp] theorem complete_hzLost (s : State) : (complete s).hzLost = s.hzLost := rfl
@[simp] theorem complete_hzTorn16 (s : State) : (complete s).hzTorn16 = s.hzTorn16 := rfl
@[simp] theorem complete_hzTornW (s : State) : (complete s).hzTornW = s.hzTornW := rfl
@[simp] theorem complete_agenda (s : State) : (complete s).agenda = s.agenda := rfl
@[simp] theorem complete_drawn (s : State) : (complete s).drawn = s.drawn := rfl
@[simp] theorem complete_reply (s : State) : (complete s).reply = s.reply := rfl

/-! ### completeWith -/

@[simp] theorem completeWith_cfg (v : Word) (s : State) : (completeWith v s).cfg = s.cfg := rfl
@[simp] theorem completeWith_hw (v : Word) (s : State) : (completeWith v s).hw = s.hw := rfl
@[simp] theorem completeWith_ps (v : Word) (s : State) : (completeWith v s).ps = s.ps := rfl
@[simp] theorem completeWith_ovf (v : Word) (s : State) : (completeWith v s).ovf = s.ovf := rfl
@[simp] theorem completeWith_pend (v : Word) (s : State) : (completeWith v s).pend = s.pend := rfl
@[simp] theorem completeWith_armed (v : Word) (s : State) : (completeWith v s).armed = s.armed := rfl
@[simp] theorem completeWith_sup (v : Word) (s : State) : (completeWith v s).sup = s.sup := rfl
@[simp] theorem completeWith_initd (v : Word) (s : State) : (completeWith v s).initd = s.initd := rfl
@[simp] theorem completeWith_busy (v : Word) (s : State) : (completeWith v s).busy = false := rfl
@[simp] theorem completeWith_rv (v : Word) (s : State) : (completeWith v s).rv = true := rfl
@[simp] theorem completeWith_flt (v : Word) (s : State) : (completeWith v s).flt = s.flt := rfl
@[simp] theorem completeWith_cmd (v : Word) (s : State) : (completeWith v s).cmd = s.cmd := rfl
@[simp] theorem completeWith_arg (v : Word) (s : State) : (completeWith v s).arg = s.arg := rfl
@[simp] theorem completeWith_res (v : Word) (s : State) : (completeWith v s).res = v := rfl
@[simp] theorem completeWith_ph (v : Word) (s : State) : (completeWith v s).ph = .idle := rfl
@[simp] theorem completeWith_a (v : Word) (s : State) : (completeWith v s).a = s.a := rfl
@[simp] theorem completeWith_b (v : Word) (s : State) : (completeWith v s).b = s.b := rfl
@[simp] theorem completeWith_h1 (v : Word) (s : State) : (completeWith v s).h1 = s.h1 := rfl
@[simp] theorem completeWith_lo (v : Word) (s : State) : (completeWith v s).lo = s.lo := rfl
@[simp] theorem completeWith_h2 (v : Word) (s : State) : (completeWith v s).h2 = s.h2 := rfl
@[simp] theorem completeWith_v16 (v : Word) (s : State) : (completeWith v s).v16 = s.v16 := rfl
@[simp] theorem completeWith_o1 (v : Word) (s : State) : (completeWith v s).o1 = s.o1 := rfl
@[simp] theorem completeWith_o2 (v : Word) (s : State) : (completeWith v s).o2 = s.o2 := rfl
@[simp] theorem completeWith_vt (v : Word) (s : State) : (completeWith v s).vt = s.vt := rfl
@[simp] theorem completeWith_gw (v : Word) (s : State) : (completeWith v s).gw = s.gw := rfl
@[simp] theorem completeWith_gt16 (v : Word) (s : State) : (completeWith v s).gt16 = s.gt16 := rfl
@[simp] theorem completeWith_gtw (v : Word) (s : State) : (completeWith v s).gtw = s.gtw := rfl
@[simp] theorem completeWith_hzLost (v : Word) (s : State) : (completeWith v s).hzLost = s.hzLost := rfl
@[simp] theorem completeWith_hzTorn16 (v : Word) (s : State) : (completeWith v s).hzTorn16 = s.hzTorn16 := rfl
@[simp] theorem completeWith_hzTornW (v : Word) (s : State) : (completeWith v s).hzTornW = s.hzTornW := rfl
@[simp] theorem completeWith_agenda (v : Word) (s : State) : (completeWith v s).agenda = s.agenda := rfl
@[simp] theorem completeWith_drawn (v : Word) (s : State) : (completeWith v s).drawn = s.drawn := rfl
@[simp] theorem completeWith_reply (v : Word) (s : State) : (completeWith v s).reply = s.reply := rfl

/-! ### enter16 -/

@[simp] theorem enter16_cfg (s : State) : (enter16 s).cfg = s.cfg := rfl
@[simp] theorem enter16_hw (s : State) : (enter16 s).hw = s.hw := rfl
@[simp] theorem enter16_ps (s : State) : (enter16 s).ps = s.ps := rfl
@[simp] theorem enter16_ovf (s : State) : (enter16 s).ovf = s.ovf := rfl
@[simp] theorem enter16_pend (s : State) : (enter16 s).pend = s.pend := rfl
@[simp] theorem enter16_armed (s : State) : (enter16 s).armed = s.armed := rfl
@[simp] theorem enter16_sup (s : State) : (enter16 s).sup = s.sup := rfl
@[simp] theorem enter16_initd (s : State) : (enter16 s).initd = s.initd := rfl
@[simp] theorem enter16_busy (s : State) : (enter16 s).busy = s.busy := rfl
@[simp] theorem enter16_rv (s : State) : (enter16 s).rv = s.rv := rfl
@[simp] theorem enter16_flt (s : State) : (enter16 s).flt = s.flt := rfl
@[simp] theorem enter16_cmd (s : State) : (enter16 s).cmd = s.cmd := rfl
@[simp] theorem enter16_arg (s : State) : (enter16 s).arg = s.arg := rfl
@[simp] theorem enter16_res (s : State) : (enter16 s).res = s.res := rfl
@[simp] theorem enter16_ph (s : State) : (enter16 s).ph = .r16H1 := rfl
@[simp] theorem enter16_a (s : State) : (enter16 s).a = 0 := rfl
@[simp] theorem enter16_b (s : State) : (enter16 s).b = s.b := rfl
@[simp] theorem enter16_h1 (s : State) : (enter16 s).h1 = s.h1 := rfl
@[simp] theorem enter16_lo (s : State) : (enter16 s).lo = s.lo := rfl
@[simp] theorem enter16_h2 (s : State) : (enter16 s).h2 = s.h2 := rfl
@[simp] theorem enter16_v16 (s : State) : (enter16 s).v16 = s.v16 := rfl
@[simp] theorem enter16_o1 (s : State) : (enter16 s).o1 = s.o1 := rfl
@[simp] theorem enter16_o2 (s : State) : (enter16 s).o2 = s.o2 := rfl
@[simp] theorem enter16_vt (s : State) : (enter16 s).vt = s.vt := rfl
@[simp] theorem enter16_gw (s : State) : (enter16 s).gw = s.gw := rfl
@[simp] theorem enter16_gt16 (s : State) : (enter16 s).gt16 = s.gt16 := rfl
@[simp] theorem enter16_gtw (s : State) : (enter16 s).gtw = s.gtw := rfl
@[simp] theorem enter16_hzLost (s : State) : (enter16 s).hzLost = s.hzLost := rfl
@[simp] theorem enter16_hzTorn16 (s : State) : (enter16 s).hzTorn16 = s.hzTorn16 := rfl
@[simp] theorem enter16_hzTornW (s : State) : (enter16 s).hzTornW = s.hzTornW := rfl
@[simp] theorem enter16_agenda (s : State) : (enter16 s).agenda = s.agenda := rfl
@[simp] theorem enter16_drawn (s : State) : (enter16 s).drawn = s.drawn := rfl
@[simp] theorem enter16_reply (s : State) : (enter16 s).reply = s.reply := rfl

/-! ### enterW -/

@[simp] theorem enterW_cfg (s : State) : (enterW s).cfg = s.cfg := rfl
@[simp] theorem enterW_hw (s : State) : (enterW s).hw = s.hw := rfl
@[simp] theorem enterW_ps (s : State) : (enterW s).ps = s.ps := rfl
@[simp] theorem enterW_ovf (s : State) : (enterW s).ovf = s.ovf := rfl
@[simp] theorem enterW_pend (s : State) : (enterW s).pend = s.pend := rfl
@[simp] theorem enterW_armed (s : State) : (enterW s).armed = s.armed := rfl
@[simp] theorem enterW_sup (s : State) : (enterW s).sup = s.sup := rfl
@[simp] theorem enterW_initd (s : State) : (enterW s).initd = s.initd := rfl
@[simp] theorem enterW_busy (s : State) : (enterW s).busy = s.busy := rfl
@[simp] theorem enterW_rv (s : State) : (enterW s).rv = s.rv := rfl
@[simp] theorem enterW_flt (s : State) : (enterW s).flt = s.flt := rfl
@[simp] theorem enterW_cmd (s : State) : (enterW s).cmd = s.cmd := rfl
@[simp] theorem enterW_arg (s : State) : (enterW s).arg = s.arg := rfl
@[simp] theorem enterW_res (s : State) : (enterW s).res = s.res := rfl
@[simp] theorem enterW_ph (s : State) : (enterW s).ph = .wO1 := rfl
@[simp] theorem enterW_a (s : State) : (enterW s).a = s.a := rfl
@[simp] theorem enterW_b (s : State) : (enterW s).b = 0 := rfl
@[simp] theorem enterW_h1 (s : State) : (enterW s).h1 = s.h1 := rfl
@[simp] theorem enterW_lo (s : State) : (enterW s).lo = s.lo := rfl
@[simp] theorem enterW_h2 (s : State) : (enterW s).h2 = s.h2 := rfl
@[simp] theorem enterW_v16 (s : State) : (enterW s).v16 = s.v16 := rfl
@[simp] theorem enterW_o1 (s : State) : (enterW s).o1 = s.o1 := rfl
@[simp] theorem enterW_o2 (s : State) : (enterW s).o2 = s.o2 := rfl
@[simp] theorem enterW_vt (s : State) : (enterW s).vt = s.vt := rfl
@[simp] theorem enterW_gw (s : State) : (enterW s).gw = s.gw := rfl
@[simp] theorem enterW_gt16 (s : State) : (enterW s).gt16 = s.gt16 := rfl
@[simp] theorem enterW_gtw (s : State) : (enterW s).gtw = s.gtw := rfl
@[simp] theorem enterW_hzLost (s : State) : (enterW s).hzLost = s.hzLost := rfl
@[simp] theorem enterW_hzTorn16 (s : State) : (enterW s).hzTorn16 = s.hzTorn16 := rfl
@[simp] theorem enterW_hzTornW (s : State) : (enterW s).hzTornW = s.hzTornW := rfl
@[simp] theorem enterW_agenda (s : State) : (enterW s).agenda = s.agenda := rfl
@[simp] theorem enterW_drawn (s : State) : (enterW s).drawn = s.drawn := rfl
@[simp] theorem enterW_reply (s : State) : (enterW s).reply = s.reply := rfl

/-! ### enterConv -/

@[simp] theorem enterConv_cfg (v : Word) (s : State) : (enterConv v s).cfg = s.cfg := rfl
@[simp] theorem enterConv_hw (v : Word) (s : State) : (enterConv v s).hw = s.hw := rfl
@[simp] theorem enterConv_ps (v : Word) (s : State) : (enterConv v s).ps = s.ps := rfl
@[simp] theorem enterConv_ovf (v : Word) (s : State) : (enterConv v s).ovf = s.ovf := rfl
@[simp] theorem enterConv_pend (v : Word) (s : State) : (enterConv v s).pend = s.pend := rfl
@[simp] theorem enterConv_armed (v : Word) (s : State) : (enterConv v s).armed = s.armed := rfl
@[simp] theorem enterConv_sup (v : Word) (s : State) : (enterConv v s).sup = s.sup := rfl
@[simp] theorem enterConv_initd (v : Word) (s : State) : (enterConv v s).initd = s.initd := rfl
@[simp] theorem enterConv_busy (v : Word) (s : State) : (enterConv v s).busy = s.busy := rfl
@[simp] theorem enterConv_rv (v : Word) (s : State) : (enterConv v s).rv = s.rv := rfl
@[simp] theorem enterConv_flt (v : Word) (s : State) : (enterConv v s).flt = s.flt := rfl
@[simp] theorem enterConv_cmd (v : Word) (s : State) : (enterConv v s).cmd = s.cmd := rfl
@[simp] theorem enterConv_arg (v : Word) (s : State) : (enterConv v s).arg = s.arg := rfl
@[simp] theorem enterConv_res (v : Word) (s : State) : (enterConv v s).res = s.res := rfl
@[simp] theorem enterConv_ph (v : Word) (s : State) : (enterConv v s).ph = .conv := rfl
@[simp] theorem enterConv_a (v : Word) (s : State) : (enterConv v s).a = s.a := rfl
@[simp] theorem enterConv_b (v : Word) (s : State) : (enterConv v s).b = s.b := rfl
@[simp] theorem enterConv_h1 (v : Word) (s : State) : (enterConv v s).h1 = s.h1 := rfl
@[simp] theorem enterConv_lo (v : Word) (s : State) : (enterConv v s).lo = s.lo := rfl
@[simp] theorem enterConv_h2 (v : Word) (s : State) : (enterConv v s).h2 = s.h2 := rfl
@[simp] theorem enterConv_v16 (v : Word) (s : State) : (enterConv v s).v16 = s.v16 := rfl
@[simp] theorem enterConv_o1 (v : Word) (s : State) : (enterConv v s).o1 = s.o1 := rfl
@[simp] theorem enterConv_o2 (v : Word) (s : State) : (enterConv v s).o2 = s.o2 := rfl
@[simp] theorem enterConv_vt (v : Word) (s : State) : (enterConv v s).vt = v := rfl
@[simp] theorem enterConv_gw (v : Word) (s : State) : (enterConv v s).gw = s.gw := rfl
@[simp] theorem enterConv_gt16 (v : Word) (s : State) : (enterConv v s).gt16 = s.gt16 := rfl
@[simp] theorem enterConv_gtw (v : Word) (s : State) : (enterConv v s).gtw = s.gtw := rfl
@[simp] theorem enterConv_hzLost (v : Word) (s : State) : (enterConv v s).hzLost = s.hzLost := rfl
@[simp] theorem enterConv_hzTorn16 (v : Word) (s : State) : (enterConv v s).hzTorn16 = s.hzTorn16 := rfl
@[simp] theorem enterConv_hzTornW (v : Word) (s : State) : (enterConv v s).hzTornW = s.hzTornW := rfl
@[simp] theorem enterConv_agenda (v : Word) (s : State) : (enterConv v s).agenda = s.agenda := rfl
@[simp] theorem enterConv_drawn (v : Word) (s : State) : (enterConv v s).drawn = s.drawn := rfl
@[simp] theorem enterConv_reply (v : Word) (s : State) : (enterConv v s).reply = s.reply := rfl

/-! ### accept -/

@[simp] theorem accept_cfg (c : Byte) (w : Word) (s : State) : (accept c w s).cfg = s.cfg := rfl
@[simp] theorem accept_hw (c : Byte) (w : Word) (s : State) : (accept c w s).hw = s.hw := rfl
@[simp] theorem accept_ps (c : Byte) (w : Word) (s : State) : (accept c w s).ps = s.ps := rfl
@[simp] theorem accept_ovf (c : Byte) (w : Word) (s : State) : (accept c w s).ovf = s.ovf := rfl
@[simp] theorem accept_pend (c : Byte) (w : Word) (s : State) : (accept c w s).pend = s.pend := rfl
@[simp] theorem accept_armed (c : Byte) (w : Word) (s : State) : (accept c w s).armed = s.armed := rfl
@[simp] theorem accept_sup (c : Byte) (w : Word) (s : State) : (accept c w s).sup = s.sup := rfl
@[simp] theorem accept_initd (c : Byte) (w : Word) (s : State) : (accept c w s).initd = s.initd := rfl
@[simp] theorem accept_busy (c : Byte) (w : Word) (s : State) : (accept c w s).busy = true := rfl
@[simp] theorem accept_rv (c : Byte) (w : Word) (s : State) : (accept c w s).rv = s.rv := rfl
@[simp] theorem accept_flt (c : Byte) (w : Word) (s : State) : (accept c w s).flt = s.flt := rfl
@[simp] theorem accept_cmd (c : Byte) (w : Word) (s : State) : (accept c w s).cmd = c := rfl
@[simp] theorem accept_arg (c : Byte) (w : Word) (s : State) : (accept c w s).arg = w := rfl
@[simp] theorem accept_res (c : Byte) (w : Word) (s : State) : (accept c w s).res = s.res := rfl
@[simp] theorem accept_ph (c : Byte) (w : Word) (s : State) : (accept c w s).ph = s.ph := rfl
@[simp] theorem accept_a (c : Byte) (w : Word) (s : State) : (accept c w s).a = s.a := rfl
@[simp] theorem accept_b (c : Byte) (w : Word) (s : State) : (accept c w s).b = s.b := rfl
@[simp] theorem accept_h1 (c : Byte) (w : Word) (s : State) : (accept c w s).h1 = s.h1 := rfl
@[simp] theorem accept_lo (c : Byte) (w : Word) (s : State) : (accept c w s).lo = s.lo := rfl
@[simp] theorem accept_h2 (c : Byte) (w : Word) (s : State) : (accept c w s).h2 = s.h2 := rfl
@[simp] theorem accept_v16 (c : Byte) (w : Word) (s : State) : (accept c w s).v16 = s.v16 := rfl
@[simp] theorem accept_o1 (c : Byte) (w : Word) (s : State) : (accept c w s).o1 = s.o1 := rfl
@[simp] theorem accept_o2 (c : Byte) (w : Word) (s : State) : (accept c w s).o2 = s.o2 := rfl
@[simp] theorem accept_vt (c : Byte) (w : Word) (s : State) : (accept c w s).vt = s.vt := rfl
@[simp] theorem accept_gw (c : Byte) (w : Word) (s : State) : (accept c w s).gw = s.gw := rfl
@[simp] theorem accept_gt16 (c : Byte) (w : Word) (s : State) : (accept c w s).gt16 = s.gt16 := rfl
@[simp] theorem accept_gtw (c : Byte) (w : Word) (s : State) : (accept c w s).gtw = s.gtw := rfl
@[simp] theorem accept_hzLost (c : Byte) (w : Word) (s : State) : (accept c w s).hzLost = s.hzLost := rfl
@[simp] theorem accept_hzTorn16 (c : Byte) (w : Word) (s : State) : (accept c w s).hzTorn16 = s.hzTorn16 := rfl
@[simp] theorem accept_hzTornW (c : Byte) (w : Word) (s : State) : (accept c w s).hzTornW = s.hzTornW := rfl
@[simp] theorem accept_agenda (c : Byte) (w : Word) (s : State) : (accept c w s).agenda = s.agenda := rfl
@[simp] theorem accept_drawn (c : Byte) (w : Word) (s : State) : (accept c w s).drawn = s.drawn := rfl
@[simp] theorem accept_reply (c : Byte) (w : Word) (s : State) : (accept c w s).reply = s.reply := rfl

/-! ### startCounter -/

@[simp] theorem startCounter_cfg (s : State) : (startCounter s).cfg = s.cfg := rfl
@[simp] theorem startCounter_hw (s : State) : (startCounter s).hw = s.hw := rfl
@[simp] theorem startCounter_ps (s : State) : (startCounter s).ps = psel (pEff s.cfg) := rfl
@[simp] theorem startCounter_ovf (s : State) : (startCounter s).ovf = s.ovf := rfl
@[simp] theorem startCounter_pend (s : State) : (startCounter s).pend = s.pend := rfl
@[simp] theorem startCounter_armed (s : State) : (startCounter s).armed = s.armed := rfl
@[simp] theorem startCounter_sup (s : State) : (startCounter s).sup = s.sup := rfl
@[simp] theorem startCounter_initd (s : State) : (startCounter s).initd = true := rfl
@[simp] theorem startCounter_busy (s : State) : (startCounter s).busy = s.busy := rfl
@[simp] theorem startCounter_rv (s : State) : (startCounter s).rv = s.rv := rfl
@[simp] theorem startCounter_flt (s : State) : (startCounter s).flt = s.flt := rfl
@[simp] theorem startCounter_cmd (s : State) : (startCounter s).cmd = s.cmd := rfl
@[simp] theorem startCounter_arg (s : State) : (startCounter s).arg = s.arg := rfl
@[simp] theorem startCounter_res (s : State) : (startCounter s).res = s.res := rfl
@[simp] theorem startCounter_ph (s : State) : (startCounter s).ph = s.ph := rfl
@[simp] theorem startCounter_a (s : State) : (startCounter s).a = s.a := rfl
@[simp] theorem startCounter_b (s : State) : (startCounter s).b = s.b := rfl
@[simp] theorem startCounter_h1 (s : State) : (startCounter s).h1 = s.h1 := rfl
@[simp] theorem startCounter_lo (s : State) : (startCounter s).lo = s.lo := rfl
@[simp] theorem startCounter_h2 (s : State) : (startCounter s).h2 = s.h2 := rfl
@[simp] theorem startCounter_v16 (s : State) : (startCounter s).v16 = s.v16 := rfl
@[simp] theorem startCounter_o1 (s : State) : (startCounter s).o1 = s.o1 := rfl
@[simp] theorem startCounter_o2 (s : State) : (startCounter s).o2 = s.o2 := rfl
@[simp] theorem startCounter_vt (s : State) : (startCounter s).vt = s.vt := rfl
@[simp] theorem startCounter_gw (s : State) : (startCounter s).gw = 0#16 := rfl
@[simp] theorem startCounter_gt16 (s : State) : (startCounter s).gt16 = s.gt16 := rfl
@[simp] theorem startCounter_gtw (s : State) : (startCounter s).gtw = s.gtw := rfl
@[simp] theorem startCounter_hzLost (s : State) : (startCounter s).hzLost = s.hzLost := rfl
@[simp] theorem startCounter_hzTorn16 (s : State) : (startCounter s).hzTorn16 = s.hzTorn16 := rfl
@[simp] theorem startCounter_hzTornW (s : State) : (startCounter s).hzTornW = s.hzTornW := rfl
@[simp] theorem startCounter_agenda (s : State) : (startCounter s).agenda = s.agenda := rfl
@[simp] theorem startCounter_drawn (s : State) : (startCounter s).drawn = s.drawn := rfl
@[simp] theorem startCounter_reply (s : State) : (startCounter s).reply = s.reply := rfl

/-! ### recheck16 -/

@[simp] theorem recheck16_cfg (s : State) : (recheck16 s).cfg = s.cfg := rfl
@[simp] theorem recheck16_hw (s : State) : (recheck16 s).hw = s.hw := rfl
@[simp] theorem recheck16_ps (s : State) : (recheck16 s).ps = s.ps := rfl
@[simp] theorem recheck16_ovf (s : State) : (recheck16 s).ovf = s.ovf := rfl
@[simp] theorem recheck16_pend (s : State) : (recheck16 s).pend = s.pend := rfl
@[simp] theorem recheck16_armed (s : State) : (recheck16 s).armed = s.armed := rfl
@[simp] theorem recheck16_sup (s : State) : (recheck16 s).sup = s.sup := rfl
@[simp] theorem recheck16_initd (s : State) : (recheck16 s).initd = s.initd := rfl
@[simp] theorem recheck16_busy (s : State) : (recheck16 s).busy = s.busy := rfl
@[simp] theorem recheck16_rv (s : State) : (recheck16 s).rv = s.rv := rfl
@[simp] theorem recheck16_flt (s : State) : (recheck16 s).flt = s.flt := rfl
@[simp] theorem recheck16_cmd (s : State) : (recheck16 s).cmd = s.cmd := rfl
@[simp] theorem recheck16_arg (s : State) : (recheck16 s).arg = s.arg := rfl
@[simp] theorem recheck16_res (s : State) : (recheck16 s).res = s.res := rfl
@[simp] theorem recheck16_ph (s : State) : (recheck16 s).ph = s.ph := rfl
@[simp] theorem recheck16_a (s : State) : (recheck16 s).a = s.a + 1 := rfl
@[simp] theorem recheck16_b (s : State) : (recheck16 s).b = s.b := rfl
@[simp] theorem recheck16_h1 (s : State) : (recheck16 s).h1 = s.h1 := rfl
@[simp] theorem recheck16_lo (s : State) : (recheck16 s).lo = s.lo := rfl
@[simp] theorem recheck16_h2 (s : State) : (recheck16 s).h2 = sampleHwh s := rfl
@[simp] theorem recheck16_v16 (s : State) : (recheck16 s).v16 = s.v16 := rfl
@[simp] theorem recheck16_o1 (s : State) : (recheck16 s).o1 = s.o1 := rfl
@[simp] theorem recheck16_o2 (s : State) : (recheck16 s).o2 = s.o2 := rfl
@[simp] theorem recheck16_vt (s : State) : (recheck16 s).vt = s.vt := rfl
@[simp] theorem recheck16_gw (s : State) : (recheck16 s).gw = s.gw := rfl
@[simp] theorem recheck16_gt16 (s : State) : (recheck16 s).gt16 = s.gt16 := rfl
@[simp] theorem recheck16_gtw (s : State) : (recheck16 s).gtw = s.gtw := rfl
@[simp] theorem recheck16_hzLost (s : State) : (recheck16 s).hzLost = s.hzLost := rfl
@[simp] theorem recheck16_hzTorn16 (s : State) : (recheck16 s).hzTorn16 = s.hzTorn16 := rfl
@[simp] theorem recheck16_hzTornW (s : State) : (recheck16 s).hzTornW = s.hzTornW := rfl
@[simp] theorem recheck16_agenda (s : State) : (recheck16 s).agenda = s.agenda := rfl
@[simp] theorem recheck16_drawn (s : State) : (recheck16 s).drawn = s.drawn := rfl
@[simp] theorem recheck16_reply (s : State) : (recheck16 s).reply = s.reply := rfl

/-! ### accept16 -/

@[simp] theorem accept16_cfg (v : Half) (s : State) : (accept16 v s).cfg = s.cfg := rfl
@[simp] theorem accept16_hw (v : Half) (s : State) : (accept16 v s).hw = s.hw := rfl
@[simp] theorem accept16_ps (v : Half) (s : State) : (accept16 v s).ps = s.ps := rfl
@[simp] theorem accept16_ovf (v : Half) (s : State) : (accept16 v s).ovf = s.ovf := rfl
@[simp] theorem accept16_pend (v : Half) (s : State) : (accept16 v s).pend = s.pend := rfl
@[simp] theorem accept16_armed (v : Half) (s : State) : (accept16 v s).armed = s.armed := rfl
@[simp] theorem accept16_sup (v : Half) (s : State) : (accept16 v s).sup = s.sup := rfl
@[simp] theorem accept16_initd (v : Half) (s : State) : (accept16 v s).initd = s.initd := rfl
@[simp] theorem accept16_busy (v : Half) (s : State) : (accept16 v s).busy = s.busy := rfl
@[simp] theorem accept16_rv (v : Half) (s : State) : (accept16 v s).rv = s.rv := rfl
@[simp] theorem accept16_flt (v : Half) (s : State) : (accept16 v s).flt = s.flt := rfl
@[simp] theorem accept16_cmd (v : Half) (s : State) : (accept16 v s).cmd = s.cmd := rfl
@[simp] theorem accept16_arg (v : Half) (s : State) : (accept16 v s).arg = s.arg := rfl
@[simp] theorem accept16_res (v : Half) (s : State) : (accept16 v s).res = s.res := rfl
@[simp] theorem accept16_ph (v : Half) (s : State) : (accept16 v s).ph = s.ph := rfl
@[simp] theorem accept16_a (v : Half) (s : State) : (accept16 v s).a = s.a := rfl
@[simp] theorem accept16_b (v : Half) (s : State) : (accept16 v s).b = s.b := rfl
@[simp] theorem accept16_h1 (v : Half) (s : State) : (accept16 v s).h1 = s.h1 := rfl
@[simp] theorem accept16_lo (v : Half) (s : State) : (accept16 v s).lo = s.lo := rfl
@[simp] theorem accept16_h2 (v : Half) (s : State) : (accept16 v s).h2 = s.h2 := rfl
@[simp] theorem accept16_v16 (v : Half) (s : State) : (accept16 v s).v16 = v := rfl
@[simp] theorem accept16_o1 (v : Half) (s : State) : (accept16 v s).o1 = s.o1 := rfl
@[simp] theorem accept16_o2 (v : Half) (s : State) : (accept16 v s).o2 = s.o2 := rfl
@[simp] theorem accept16_vt (v : Half) (s : State) : (accept16 v s).vt = s.vt := rfl
@[simp] theorem accept16_gw (v : Half) (s : State) : (accept16 v s).gw = s.gw := rfl
@[simp] theorem accept16_gt16 (v : Half) (s : State) : (accept16 v s).gt16 = s.gt16 := rfl
@[simp] theorem accept16_gtw (v : Half) (s : State) : (accept16 v s).gtw = s.gtw := rfl
@[simp] theorem accept16_hzLost (v : Half) (s : State) : (accept16 v s).hzLost = s.hzLost := rfl
@[simp] theorem accept16_hzTorn16 (v : Half) (s : State) : (accept16 v s).hzTorn16 = torn16After s v := rfl
@[simp] theorem accept16_hzTornW (v : Half) (s : State) : (accept16 v s).hzTornW = s.hzTornW := rfl
@[simp] theorem accept16_agenda (v : Half) (s : State) : (accept16 v s).agenda = s.agenda := rfl
@[simp] theorem accept16_drawn (v : Half) (s : State) : (accept16 v s).drawn = s.drawn := rfl
@[simp] theorem accept16_reply (v : Half) (s : State) : (accept16 v s).reply = s.reply := rfl

/-! ### recheckW -/

@[simp] theorem recheckW_cfg (s : State) : (recheckW s).cfg = s.cfg := rfl
@[simp] theorem recheckW_hw (s : State) : (recheckW s).hw = s.hw := rfl
@[simp] theorem recheckW_ps (s : State) : (recheckW s).ps = s.ps := rfl
@[simp] theorem recheckW_ovf (s : State) : (recheckW s).ovf = s.ovf := rfl
@[simp] theorem recheckW_pend (s : State) : (recheckW s).pend = s.pend := rfl
@[simp] theorem recheckW_armed (s : State) : (recheckW s).armed = s.armed := rfl
@[simp] theorem recheckW_sup (s : State) : (recheckW s).sup = s.sup := rfl
@[simp] theorem recheckW_initd (s : State) : (recheckW s).initd = s.initd := rfl
@[simp] theorem recheckW_busy (s : State) : (recheckW s).busy = s.busy := rfl
@[simp] theorem recheckW_rv (s : State) : (recheckW s).rv = s.rv := rfl
@[simp] theorem recheckW_flt (s : State) : (recheckW s).flt = s.flt := rfl
@[simp] theorem recheckW_cmd (s : State) : (recheckW s).cmd = s.cmd := rfl
@[simp] theorem recheckW_arg (s : State) : (recheckW s).arg = s.arg := rfl
@[simp] theorem recheckW_res (s : State) : (recheckW s).res = s.res := rfl
@[simp] theorem recheckW_ph (s : State) : (recheckW s).ph = s.ph := rfl
@[simp] theorem recheckW_a (s : State) : (recheckW s).a = s.a := rfl
@[simp] theorem recheckW_b (s : State) : (recheckW s).b = s.b + 1 := rfl
@[simp] theorem recheckW_h1 (s : State) : (recheckW s).h1 = s.h1 := rfl
@[simp] theorem recheckW_lo (s : State) : (recheckW s).lo = s.lo := rfl
@[simp] theorem recheckW_h2 (s : State) : (recheckW s).h2 = s.h2 := rfl
@[simp] theorem recheckW_v16 (s : State) : (recheckW s).v16 = s.v16 := rfl
@[simp] theorem recheckW_o1 (s : State) : (recheckW s).o1 = s.o1 := rfl
@[simp] theorem recheckW_o2 (s : State) : (recheckW s).o2 = sampleOvf s := rfl
@[simp] theorem recheckW_vt (s : State) : (recheckW s).vt = s.vt := rfl
@[simp] theorem recheckW_gw (s : State) : (recheckW s).gw = s.gw := rfl
@[simp] theorem recheckW_gt16 (s : State) : (recheckW s).gt16 = s.gt16 := rfl
@[simp] theorem recheckW_gtw (s : State) : (recheckW s).gtw = s.gtw := rfl
@[simp] theorem recheckW_hzLost (s : State) : (recheckW s).hzLost = s.hzLost := rfl
@[simp] theorem recheckW_hzTorn16 (s : State) : (recheckW s).hzTorn16 = s.hzTorn16 := rfl
@[simp] theorem recheckW_hzTornW (s : State) : (recheckW s).hzTornW = s.hzTornW := rfl
@[simp] theorem recheckW_agenda (s : State) : (recheckW s).agenda = s.agenda := rfl
@[simp] theorem recheckW_drawn (s : State) : (recheckW s).drawn = s.drawn := rfl
@[simp] theorem recheckW_reply (s : State) : (recheckW s).reply = s.reply := rfl

/-! ### acceptW -/

@[simp] theorem acceptW_cfg (v : Word) (s : State) : (acceptW v s).cfg = s.cfg := rfl
@[simp] theorem acceptW_hw (v : Word) (s : State) : (acceptW v s).hw = s.hw := rfl
@[simp] theorem acceptW_ps (v : Word) (s : State) : (acceptW v s).ps = s.ps := rfl
@[simp] theorem acceptW_ovf (v : Word) (s : State) : (acceptW v s).ovf = s.ovf := rfl
@[simp] theorem acceptW_pend (v : Word) (s : State) : (acceptW v s).pend = s.pend := rfl
@[simp] theorem acceptW_armed (v : Word) (s : State) : (acceptW v s).armed = s.armed := rfl
@[simp] theorem acceptW_sup (v : Word) (s : State) : (acceptW v s).sup = s.sup := rfl
@[simp] theorem acceptW_initd (v : Word) (s : State) : (acceptW v s).initd = s.initd := rfl
@[simp] theorem acceptW_busy (v : Word) (s : State) : (acceptW v s).busy = s.busy := rfl
@[simp] theorem acceptW_rv (v : Word) (s : State) : (acceptW v s).rv = s.rv := rfl
@[simp] theorem acceptW_flt (v : Word) (s : State) : (acceptW v s).flt = s.flt := rfl
@[simp] theorem acceptW_cmd (v : Word) (s : State) : (acceptW v s).cmd = s.cmd := rfl
@[simp] theorem acceptW_arg (v : Word) (s : State) : (acceptW v s).arg = s.arg := rfl
@[simp] theorem acceptW_res (v : Word) (s : State) : (acceptW v s).res = s.res := rfl
@[simp] theorem acceptW_ph (v : Word) (s : State) : (acceptW v s).ph = s.ph := rfl
@[simp] theorem acceptW_a (v : Word) (s : State) : (acceptW v s).a = s.a := rfl
@[simp] theorem acceptW_b (v : Word) (s : State) : (acceptW v s).b = s.b := rfl
@[simp] theorem acceptW_h1 (v : Word) (s : State) : (acceptW v s).h1 = s.h1 := rfl
@[simp] theorem acceptW_lo (v : Word) (s : State) : (acceptW v s).lo = s.lo := rfl
@[simp] theorem acceptW_h2 (v : Word) (s : State) : (acceptW v s).h2 = s.h2 := rfl
@[simp] theorem acceptW_v16 (v : Word) (s : State) : (acceptW v s).v16 = s.v16 := rfl
@[simp] theorem acceptW_o1 (v : Word) (s : State) : (acceptW v s).o1 = s.o1 := rfl
@[simp] theorem acceptW_o2 (v : Word) (s : State) : (acceptW v s).o2 = s.o2 := rfl
@[simp] theorem acceptW_vt (v : Word) (s : State) : (acceptW v s).vt = s.vt := rfl
@[simp] theorem acceptW_gw (v : Word) (s : State) : (acceptW v s).gw = s.gw := rfl
@[simp] theorem acceptW_gt16 (v : Word) (s : State) : (acceptW v s).gt16 = s.gt16 := rfl
@[simp] theorem acceptW_gtw (v : Word) (s : State) : (acceptW v s).gtw = s.gtw := rfl
@[simp] theorem acceptW_hzLost (v : Word) (s : State) : (acceptW v s).hzLost = s.hzLost := rfl
@[simp] theorem acceptW_hzTorn16 (v : Word) (s : State) : (acceptW v s).hzTorn16 = s.hzTorn16 := rfl
@[simp] theorem acceptW_hzTornW (v : Word) (s : State) : (acceptW v s).hzTornW = tornWAfter s v s.gtw := rfl
@[simp] theorem acceptW_agenda (v : Word) (s : State) : (acceptW v s).agenda = s.agenda := rfl
@[simp] theorem acceptW_drawn (v : Word) (s : State) : (acceptW v s).drawn = s.drawn := rfl
@[simp] theorem acceptW_reply (v : Word) (s : State) : (acceptW v s).reply = s.reply := rfl

/-! ### wrapCounter -/

@[simp] theorem wrapCounter_cfg (s : State) : (wrapCounter s).cfg = s.cfg := rfl
@[simp] theorem wrapCounter_hw (s : State) : (wrapCounter s).hw = 0#16 := rfl
@[simp] theorem wrapCounter_ps (s : State) : (wrapCounter s).ps = s.ps := rfl
@[simp] theorem wrapCounter_ovf (s : State) : (wrapCounter s).ovf = s.ovf := rfl
@[simp] theorem wrapCounter_pend (s : State) : (wrapCounter s).pend = true := rfl
@[simp] theorem wrapCounter_armed (s : State) : (wrapCounter s).armed = s.armed := rfl
@[simp] theorem wrapCounter_sup (s : State) : (wrapCounter s).sup = s.sup := rfl
@[simp] theorem wrapCounter_initd (s : State) : (wrapCounter s).initd = s.initd := rfl
@[simp] theorem wrapCounter_busy (s : State) : (wrapCounter s).busy = s.busy := rfl
@[simp] theorem wrapCounter_rv (s : State) : (wrapCounter s).rv = s.rv := rfl
@[simp] theorem wrapCounter_flt (s : State) : (wrapCounter s).flt = s.flt := rfl
@[simp] theorem wrapCounter_cmd (s : State) : (wrapCounter s).cmd = s.cmd := rfl
@[simp] theorem wrapCounter_arg (s : State) : (wrapCounter s).arg = s.arg := rfl
@[simp] theorem wrapCounter_res (s : State) : (wrapCounter s).res = s.res := rfl
@[simp] theorem wrapCounter_ph (s : State) : (wrapCounter s).ph = s.ph := rfl
@[simp] theorem wrapCounter_a (s : State) : (wrapCounter s).a = s.a := rfl
@[simp] theorem wrapCounter_b (s : State) : (wrapCounter s).b = s.b := rfl
@[simp] theorem wrapCounter_h1 (s : State) : (wrapCounter s).h1 = s.h1 := rfl
@[simp] theorem wrapCounter_lo (s : State) : (wrapCounter s).lo = s.lo := rfl
@[simp] theorem wrapCounter_h2 (s : State) : (wrapCounter s).h2 = s.h2 := rfl
@[simp] theorem wrapCounter_v16 (s : State) : (wrapCounter s).v16 = s.v16 := rfl
@[simp] theorem wrapCounter_o1 (s : State) : (wrapCounter s).o1 = s.o1 := rfl
@[simp] theorem wrapCounter_o2 (s : State) : (wrapCounter s).o2 = s.o2 := rfl
@[simp] theorem wrapCounter_vt (s : State) : (wrapCounter s).vt = s.vt := rfl
@[simp] theorem wrapCounter_gw (s : State) : (wrapCounter s).gw = s.gw + 1#16 := rfl
@[simp] theorem wrapCounter_gt16 (s : State) : (wrapCounter s).gt16 = s.gt16 := rfl
@[simp] theorem wrapCounter_gtw (s : State) : (wrapCounter s).gtw = s.gtw := rfl
@[simp] theorem wrapCounter_hzLost (s : State) : (wrapCounter s).hzLost = lostAfterWrap s := rfl
@[simp] theorem wrapCounter_hzTorn16 (s : State) : (wrapCounter s).hzTorn16 = s.hzTorn16 := rfl
@[simp] theorem wrapCounter_hzTornW (s : State) : (wrapCounter s).hzTornW = s.hzTornW := rfl
@[simp] theorem wrapCounter_agenda (s : State) : (wrapCounter s).agenda = s.agenda := rfl
@[simp] theorem wrapCounter_drawn (s : State) : (wrapCounter s).drawn = s.drawn := rfl
@[simp] theorem wrapCounter_reply (s : State) : (wrapCounter s).reply = s.reply := rfl

/-! ### placeMove -/

@[simp] theorem placeMove_cfg (ev : Event) (s : State) : (placeMove ev s).cfg = s.cfg := rfl
@[simp] theorem placeMove_hw (ev : Event) (s : State) : (placeMove ev s).hw = s.hw := rfl
@[simp] theorem placeMove_ps (ev : Event) (s : State) : (placeMove ev s).ps = s.ps := rfl
@[simp] theorem placeMove_ovf (ev : Event) (s : State) : (placeMove ev s).ovf = s.ovf := rfl
@[simp] theorem placeMove_pend (ev : Event) (s : State) : (placeMove ev s).pend = s.pend := rfl
@[simp] theorem placeMove_armed (ev : Event) (s : State) : (placeMove ev s).armed = s.armed := rfl
@[simp] theorem placeMove_sup (ev : Event) (s : State) : (placeMove ev s).sup = s.sup := rfl
@[simp] theorem placeMove_initd (ev : Event) (s : State) : (placeMove ev s).initd = s.initd := rfl
@[simp] theorem placeMove_busy (ev : Event) (s : State) : (placeMove ev s).busy = s.busy := rfl
@[simp] theorem placeMove_rv (ev : Event) (s : State) : (placeMove ev s).rv = s.rv := rfl
@[simp] theorem placeMove_flt (ev : Event) (s : State) : (placeMove ev s).flt = s.flt := rfl
@[simp] theorem placeMove_cmd (ev : Event) (s : State) : (placeMove ev s).cmd = s.cmd := rfl
@[simp] theorem placeMove_arg (ev : Event) (s : State) : (placeMove ev s).arg = s.arg := rfl
@[simp] theorem placeMove_res (ev : Event) (s : State) : (placeMove ev s).res = s.res := rfl
@[simp] theorem placeMove_ph (ev : Event) (s : State) : (placeMove ev s).ph = s.ph := rfl
@[simp] theorem placeMove_a (ev : Event) (s : State) : (placeMove ev s).a = s.a := rfl
@[simp] theorem placeMove_b (ev : Event) (s : State) : (placeMove ev s).b = s.b := rfl
@[simp] theorem placeMove_h1 (ev : Event) (s : State) : (placeMove ev s).h1 = s.h1 := rfl
@[simp] theorem placeMove_lo (ev : Event) (s : State) : (placeMove ev s).lo = s.lo := rfl
@[simp] theorem placeMove_h2 (ev : Event) (s : State) : (placeMove ev s).h2 = s.h2 := rfl
@[simp] theorem placeMove_v16 (ev : Event) (s : State) : (placeMove ev s).v16 = s.v16 := rfl
@[simp] theorem placeMove_o1 (ev : Event) (s : State) : (placeMove ev s).o1 = s.o1 := rfl
@[simp] theorem placeMove_o2 (ev : Event) (s : State) : (placeMove ev s).o2 = s.o2 := rfl
@[simp] theorem placeMove_vt (ev : Event) (s : State) : (placeMove ev s).vt = s.vt := rfl
@[simp] theorem placeMove_gw (ev : Event) (s : State) : (placeMove ev s).gw = s.gw := rfl
@[simp] theorem placeMove_gt16 (ev : Event) (s : State) : (placeMove ev s).gt16 = s.gt16 := rfl
@[simp] theorem placeMove_gtw (ev : Event) (s : State) : (placeMove ev s).gtw = s.gtw := rfl
@[simp] theorem placeMove_hzLost (ev : Event) (s : State) : (placeMove ev s).hzLost = s.hzLost := rfl
@[simp] theorem placeMove_hzTorn16 (ev : Event) (s : State) : (placeMove ev s).hzTorn16 = s.hzTorn16 := rfl
@[simp] theorem placeMove_hzTornW (ev : Event) (s : State) : (placeMove ev s).hzTornW = s.hzTornW := rfl
@[simp] theorem placeMove_agenda (ev : Event) (s : State) : (placeMove ev s).agenda = ev :: s.agenda := rfl
@[simp] theorem placeMove_drawn (ev : Event) (s : State) : (placeMove ev s).drawn = s.drawn := rfl
@[simp] theorem placeMove_reply (ev : Event) (s : State) : (placeMove ev s).reply = s.reply := rfl

/-! ### advanceCounter -/

@[simp] theorem advanceCounter_cfg (s : State) : (advanceCounter s).cfg = s.cfg := rfl
@[simp] theorem advanceCounter_hw (s : State) : (advanceCounter s).hw = s.hw + 1#16 := rfl
@[simp] theorem advanceCounter_ps (s : State) : (advanceCounter s).ps = s.ps := rfl
@[simp] theorem advanceCounter_ovf (s : State) : (advanceCounter s).ovf = s.ovf := rfl
@[simp] theorem advanceCounter_pend (s : State) : (advanceCounter s).pend = s.pend := rfl
@[simp] theorem advanceCounter_armed (s : State) : (advanceCounter s).armed = s.armed := rfl
@[simp] theorem advanceCounter_sup (s : State) : (advanceCounter s).sup = s.sup := rfl
@[simp] theorem advanceCounter_initd (s : State) : (advanceCounter s).initd = s.initd := rfl
@[simp] theorem advanceCounter_busy (s : State) : (advanceCounter s).busy = s.busy := rfl
@[simp] theorem advanceCounter_rv (s : State) : (advanceCounter s).rv = s.rv := rfl
@[simp] theorem advanceCounter_flt (s : State) : (advanceCounter s).flt = s.flt := rfl
@[simp] theorem advanceCounter_cmd (s : State) : (advanceCounter s).cmd = s.cmd := rfl
@[simp] theorem advanceCounter_arg (s : State) : (advanceCounter s).arg = s.arg := rfl
@[simp] theorem advanceCounter_res (s : State) : (advanceCounter s).res = s.res := rfl
@[simp] theorem advanceCounter_ph (s : State) : (advanceCounter s).ph = s.ph := rfl
@[simp] theorem advanceCounter_a (s : State) : (advanceCounter s).a = s.a := rfl
@[simp] theorem advanceCounter_b (s : State) : (advanceCounter s).b = s.b := rfl
@[simp] theorem advanceCounter_h1 (s : State) : (advanceCounter s).h1 = s.h1 := rfl
@[simp] theorem advanceCounter_lo (s : State) : (advanceCounter s).lo = s.lo := rfl
@[simp] theorem advanceCounter_h2 (s : State) : (advanceCounter s).h2 = s.h2 := rfl
@[simp] theorem advanceCounter_v16 (s : State) : (advanceCounter s).v16 = s.v16 := rfl
@[simp] theorem advanceCounter_o1 (s : State) : (advanceCounter s).o1 = s.o1 := rfl
@[simp] theorem advanceCounter_o2 (s : State) : (advanceCounter s).o2 = s.o2 := rfl
@[simp] theorem advanceCounter_vt (s : State) : (advanceCounter s).vt = s.vt := rfl
@[simp] theorem advanceCounter_gw (s : State) : (advanceCounter s).gw = s.gw := rfl
@[simp] theorem advanceCounter_gt16 (s : State) : (advanceCounter s).gt16 = s.gt16 := rfl
@[simp] theorem advanceCounter_gtw (s : State) : (advanceCounter s).gtw = s.gtw := rfl
@[simp] theorem advanceCounter_hzLost (s : State) : (advanceCounter s).hzLost = s.hzLost := rfl
@[simp] theorem advanceCounter_hzTorn16 (s : State) : (advanceCounter s).hzTorn16 = s.hzTorn16 := rfl
@[simp] theorem advanceCounter_hzTornW (s : State) : (advanceCounter s).hzTornW = s.hzTornW := rfl
@[simp] theorem advanceCounter_agenda (s : State) : (advanceCounter s).agenda = s.agenda := rfl
@[simp] theorem advanceCounter_drawn (s : State) : (advanceCounter s).drawn = s.drawn := rfl
@[simp] theorem advanceCounter_reply (s : State) : (advanceCounter s).reply = s.reply := rfl

end Sys2Proof.Machine
end

