-- ==== Sys2Proof/Laws/Ops.lean ====
section
/-! SUPPORT. One lemma per shared operation that says everything it can answer, so that a proof cites it instead of
unfolding the operation. -/

namespace Sys2Proof.Machine

open Host (Outcome)

/-! ### ISSUE -/

/-- The codes and conditions under which ISSUE raises no fault (R61). -/
theorem issueFault_eq_none_iff (code : Byte) (s : State) :
    issueFault code s = none ↔
      s.busy = false ∧ verdict s.cfg code = .present ∧ (s.initd = true ↔ code ≠ 0x01#8) := by
  unfold issueFault
  cases s.busy <;> cases s.initd <;> by_cases hc : code = 0x01#8 <;>
    by_cases hv : verdict s.cfg code = .present <;> simp [hc, hv]
  all_goals simp_all

/-- ISSUE always answers a next state: the same one, a raised fault, or the command accepted (R61, R103). -/
theorem issue_cases {code : Byte} {arg : Word} {first : State → State} {s : State}
    {r : Outcome State Fault Refusal} (h : issue code arg first s = r) :
    (faultFree s = false ∧ r = .next s) ∨
    (∃ f, faultFree s = true ∧ issueFault code s = some f ∧ r = .next (raise f s)) ∨
    (faultFree s = true ∧ issueFault code s = none ∧ r = .next (first (accept code arg s))) := by
  subst h
  unfold issue
  cases hf : faultFree s with
  | false => exact .inl ⟨rfl, by simp⟩
  | true =>
    cases hi : issueFault code s with
    | none => exact .inr (.inr ⟨rfl, rfl, by simp⟩)
    | some f => exact .inr (.inl ⟨f, rfl, rfl, by simp⟩)

/-- What ISSUE of a command sets up after its latches (R62). -/
def firstOf (s : State) : Instr → State → State
  | .init _ => goto .initX
  | .read16 _ => enter16
  | .readw _ => enterW
  | .t2ms w => enterConv (tickOperand s.cfg w)
  | .t2us w => enterConv (tickOperand s.cfg w)
  | .nowms _ => enterNow
  | .nowus _ => enterNow

/-- Every command's meaning is ISSUE of its code with its own first phase (R61, R62). -/
theorem exec_eq_issue (i : Instr) (s : State) :
    exec i s = issue (encode i).code i.operand (firstOf s i) s := by
  cases i <;> rfl

/-- ISSUE of a transaction that decodes to a command runs that command. -/
theorem issueTransaction_of_decode {tx : Transaction} {i : Instr} (h : decode tx = .ok i) (s : State) :
    issueTransaction tx s = exec i s := by
  simp [issueTransaction, h]

/-- ISSUE of a reserved code answers the state unchanged or a raised fault. -/
theorem issueTransaction_of_reserved {tx : Transaction} {e : DecodeError} (h : decode tx = .error e) (s : State) :
    issueTransaction tx s = issue tx.code tx.arg (fun t => t) s := by
  simp [issueTransaction, h, issueReserved]

/-- ISSUE of any transaction is `issue` of its code with some first phase. -/
theorem issueTransaction_eq_issue (tx : Transaction) (s : State) :
    ∃ code arg first, issueTransaction tx s = issue code arg first s := by
  cases h : decode tx with
  | ok i => exact ⟨_, _, _, (issueTransaction_of_decode h s).trans (exec_eq_issue i s)⟩
  | error e => exact ⟨_, _, _, issueTransaction_of_reserved h s⟩

/-! ### The continuations -/

/-- What ret16 can answer (R76). -/
theorem ret16_cases {v : Half} {s : State} {r : Outcome State Fault Refusal} (h : ret16 v s = r) :
    (s.cmd = 0x02#8 ∧ r = .next (completeWith (zext v) s)) ∨
    (s.cfg.enWide = true ∧ (s.cmd = 0x03#8 ∨ s.cmd = 0x06#8 ∨ s.cmd = 0x07#8) ∧ r = .next (goto .wO2 s)) ∨
    (s.cfg.enWide = false ∧ (s.cmd = 0x06#8 ∨ s.cmd = 0x07#8) ∧ r = .next (enterConv (zext v) s)) ∨
    (s.cmd ≠ 0x02#8 ∧ r = .fault .noContinuation) := by
  subst h
  unfold ret16
  split
  · exact .inl ⟨‹_›, rfl⟩
  · split <;> split
    · exact .inr (.inl ⟨‹_›, ‹_›, rfl⟩)
    · exact .inr (.inr (.inr ⟨‹_›, rfl⟩))
    · exact .inr (.inr (.inl ⟨by simpa using ‹¬s.cfg.enWide = true›, ‹_›, rfl⟩))
    · exact .inr (.inr (.inr ⟨‹_›, rfl⟩))

/-- What retW can answer (R83). -/
theorem retW_cases {v : Word} {s : State} {r : Outcome State Fault Refusal} (h : retW v s = r) :
    (s.cmd = 0x03#8 ∧ r = .next (completeWith v s)) ∨
    ((s.cmd = 0x06#8 ∨ s.cmd = 0x07#8) ∧ r = .next (enterConv v s)) ∨
    ((s.cmd ≠ 0x03#8 ∧ s.cmd ≠ 0x06#8 ∧ s.cmd ≠ 0x07#8) ∧ r = .fault .noContinuation) := by
  subst h
  unfold retW
  split
  · exact .inl ⟨‹_›, rfl⟩
  · rename_i h3
    split
    · exact .inr (.inl ⟨‹_›, rfl⟩)
    · rename_i hc
      exact .inr (.inr ⟨⟨h3, fun h => hc (.inl h), fun h => hc (.inr h)⟩, rfl⟩)

/-! ### The re-check steps -/

/-- What R16_H2 can answer: accept, retry or fall back (R72). -/
theorem phaseR16H2_cases {s : State} {r : Outcome State Fault Refusal} (h : phaseR16H2 s = r) :
    (sampleHwh s = s.h1 ∧
      r = ret16 (joinBytes s.h1 s.lo) (accept16 (joinBytes s.h1 s.lo) (recheck16 s))) ∨
    (sampleHwh s ≠ s.h1 ∧ s.a + 1 < 4 ∧ r = .next (goto .r16H1 (recheck16 s))) ∨
    (sampleHwh s ≠ s.h1 ∧ 4 ≤ s.a + 1 ∧ r = .next (goto .r16Sup (recheck16 s))) := by
  subst h
  unfold phaseR16H2 attempts16
  dsimp only [recheck16_h2, recheck16_h1, recheck16_a, recheck16_lo]
  by_cases hh : sampleHwh s = s.h1
  · exact .inl ⟨hh, if_pos hh⟩
  · by_cases hn : s.a + 1 < 4
    · exact .inr (.inl ⟨hh, hn, (if_neg hh).trans (if_pos hn)⟩)
    · exact .inr (.inr ⟨hh, by omega, (if_neg hh).trans (if_neg hn)⟩)

/-- What W_O2 can answer: accept, retry or fall back (R79). -/
theorem phaseWO2_cases {s : State} {r : Outcome State Fault Refusal} (h : phaseWO2 s = r) :
    (s.ovf = s.o1 ∧ r = retW (extended s.o1 s.v16) (acceptW (extended s.o1 s.v16) (recheckW s))) ∨
    (s.ovf ≠ s.o1 ∧ s.b + 1 < 4 ∧ r = .next (goto .wO1 (recheckW s))) ∨
    (s.ovf ≠ s.o1 ∧ 4 ≤ s.b + 1 ∧ r = .next (goto .wSup (recheckW s))) := by
  subst h
  unfold phaseWO2 attemptsW
  dsimp only [recheckW_o2, recheckW_o1, recheckW_b, recheckW_v16, sampleOvf]
  by_cases hh : s.ovf = s.o1
  · exact .inl ⟨hh, if_pos hh⟩
  · by_cases hn : s.b + 1 < 4
    · exact .inr (.inl ⟨hh, hn, (if_neg hh).trans (if_pos hn)⟩)
    · exact .inr (.inr ⟨hh, by omega, (if_neg hh).trans (if_neg hn)⟩)

/-! ### The agents' steps -/

/-- What TICK can answer (R108, R109). -/
theorem tickStep_cases {s : State} {r : Outcome State Fault Refusal} (h : tickStep s = r) :
    (clockSelectIllegal s = true ∧ r = .fault .illegalClockSelect) ∨
    (tickEnabled s = false ∧ r = .next s) ∨
    (tickEnabled s = true ∧ s.hw = 0xFFFF#16 ∧ r = .next (wrapCounter s)) ∨
    (tickEnabled s = true ∧ s.hw ≠ 0xFFFF#16 ∧ r = .next (advanceCounter s)) := by
  subst h
  unfold tickStep countTick atMaximum
  cases hc : clockSelectIllegal s
  · cases ht : tickEnabled s
    · simp
    · by_cases hm : s.hw = 0xFFFF#16
      · simp [hm]
      · refine .inr (.inr (.inr ⟨rfl, hm, ?_⟩))
        simp [hm]
  · simp

/-- What NOTIFY can answer (R110). -/
theorem notifyStep_cases {s : State} {r : Outcome State Fault Refusal} (h : notifyStep s = r) :
    (notifyEnabled s = false ∧ r = .next s) ∨
    (notifyEnabled s = true ∧ r = .next (takeNotification s)) := by
  subst h
  unfold notifyStep
  cases notifyEnabled s <;> simp

/-- What the READER's step can answer (R65). -/
theorem readerStep_cases {s : State} {r : Outcome State Fault Refusal} (h : readerStep s = r) :
    (readerEnabled s = false ∧ r = .next s) ∨ (readerEnabled s = true ∧ r = microStep s) := by
  subst h
  unfold readerStep
  cases readerEnabled s <;> simp

/-- When the READER has a step (R65). -/
theorem readerEnabled_iff (s : State) :
    readerEnabled s = true ↔
      s.flt = 0 ∧ s.ph ≠ .idle ∧ ¬(s.armed = true ∧ s.pend = true ∧ s.sup = false) := by
  unfold readerEnabled faultFree notifyEnabled
  cases s.armed <;> cases s.pend <;> cases s.sup <;> simp

/-- What RDRES can answer (R63). -/
theorem hostRdres_cases {s : State} {r : Outcome State Fault Refusal} (h : hostRdres s = r) :
    (faultFree s = false ∧ r = .next s) ∨
    (faultFree s = true ∧ s.busy = true ∧ r = .next (raise .busy s)) ∨
    (faultFree s = true ∧ s.busy = false ∧ s.rv = false ∧ r = .next (raise .resUnwritten s)) ∨
    (faultFree s = true ∧ s.busy = false ∧ s.rv = true ∧
      r = .next { s with reply := some (.res s.res) }) := by
  subst h
  unfold hostRdres readResult
  cases faultFree s <;> cases s.busy <;> cases s.rv <;> simp

/-! ### One transition -/

/-- A step is the next move run in the state that chose it, or a refusal of the configuration (R4, R7). -/
theorem step_cases {s : State} {r : Outcome State Fault Refusal} (h : step s = r) :
    (s.cfg.wf = false ∧ r = .refused .illFormedConfig) ∨
    (∃ ev rest, s.cfg.wf = true ∧ s.agenda = ev :: rest ∧ r = runEvent ev { s with agenda := rest }) ∨
    (s.cfg.wf = true ∧ s.agenda = [] ∧
      r = runEvent (Config.freeEvent s.drawn) { s with drawn := s.drawn + 1 }) := by
  subst h
  unfold step nextMove
  cases hw : s.cfg.wf
  · simp
  · cases ha : s.agenda with
    | nil => simp
    | cons ev rest => simp

end Sys2Proof.Machine
end

