-- ==== Sys2Proof/Laws/PerInstr.lean ====
section
/-! SUPPORT. The family of statements made per command: its encoding carries one of the listed codes and its whole
operand (spec/30_encoding.md R51, R54). -/

namespace Sys2Proof.Laws

/-- The transaction of a command has a listed code, 0x01 to 0x07, and its ARG is the command's operand. -/
def CommandEncoding.Statement (i : Instr) : Prop :=
  1 ≤ (encode i).code.toNat ∧ (encode i).code.toNat ≤ 7 ∧ (encode i).arg = i.operand

theorem CommandEncoding.init (arg : Word) : CommandEncoding.Statement (.init arg) :=
  ⟨by simp [encode], by simp [encode], rfl⟩

theorem CommandEncoding.read16 (arg : Word) : CommandEncoding.Statement (.read16 arg) :=
  ⟨by simp [encode], by simp [encode], rfl⟩

theorem CommandEncoding.readw (arg : Word) : CommandEncoding.Statement (.readw arg) :=
  ⟨by simp [encode], by simp [encode], rfl⟩

theorem CommandEncoding.t2ms (arg : Word) : CommandEncoding.Statement (.t2ms arg) :=
  ⟨by simp [encode], by simp [encode], rfl⟩

theorem CommandEncoding.t2us (arg : Word) : CommandEncoding.Statement (.t2us arg) :=
  ⟨by simp [encode], by simp [encode], rfl⟩

theorem CommandEncoding.nowms (arg : Word) : CommandEncoding.Statement (.nowms arg) :=
  ⟨by simp [encode], by simp [encode], rfl⟩

theorem CommandEncoding.nowus (arg : Word) : CommandEncoding.Statement (.nowus arg) :=
  ⟨by simp [encode], by simp [encode], rfl⟩

end Sys2Proof.Laws
end

