-- ==== Sys2Proof/Tests/Slice0.lean ====
section
/-! SUPPORT. The model's own tests: transactions written out from the opcode map, the well-formedness checks, one-step
vectors of spec/95_test_vectors.md, and a witness for the hypotheses of every statement that has some. -/

namespace Sys2Proof.Tests

open Sys2Proof.Machine Sys2Proof.Safety

/-! ### Helper states -/

/-- Configuration (8000000, 1024, EN_WIDE = 0, HW0) of 95_test_vectors.md. -/
def narrow (h : Half) : Config :=
  { Config.reference with enWide := false, hw0 := h }

/-- Configuration (8000000, 1024, EN_WIDE = 1, HW0) of 95_test_vectors.md. -/
def wide (h : Half) : Config :=
  { Config.reference with hw0 := h }

/-- A configuration of section 5 of 95_test_vectors.md. -/
def clock (f p : Nat) (w : Bool) : Config :=
  { Config.reference with fHz := f, pReq := p, enWide := w }

/-- The state just after INIT completes (40_control.md R66). -/
def ready (c : Config) : State :=
  { State.resetWith c with ps := psel (pEff c), initd := true, armed := c.enWide, cmd := 0x01#8 }

/-- A command in progress at a phase. -/
def running (c : Config) (cmd : Byte) (p : Phase) : State :=
  { ready c with cmd := cmd, busy := true, ph := p, sup := suppressedPhase p }

/-- A question about the next state. -/
def nextState (o : Host.Outcome State Fault Refusal) (q : State → Bool) : Bool :=
  match o with
  | .next t => q t
  | _ => false

/-- The answer is the stop r. -/
def stopsWith (o : Host.Outcome State Fault Refusal) (r : Fault) : Bool :=
  match o with
  | .fault x => x == r
  | _ => false

/-! ### Decoding: words written out bit by bit (30_encoding.md R51, R54, R55, R59) -/

theorem test_decode_init : decode ⟨0b00000001#8, 0#32⟩ = .ok (.init 0#32) := by decide
theorem test_decode_read16 : decode ⟨0b00000010#8, 0xDEADBEEF#32⟩ = .ok (.read16 0xDEADBEEF#32) := by decide
theorem test_decode_readw : decode ⟨0b00000011#8, 0#32⟩ = .ok (.readw 0#32) := by decide
theorem test_decode_t2ms : decodeTableWord 40 0x00001E8404 = some (.t2ms 7812#32) := by decide
theorem test_decode_t2us : decodeTableWord 40 0xFFFF03E805 = some (.t2us 0xFFFF03E8#32) := by decide
theorem test_decode_nowms : decodeTableWord 8 0x06 = some (.nowms 0#32) := by decide
theorem test_decode_nowus : decodeTableWord 8 0x07 = some (.nowus 0#32) := by decide
theorem test_decode_reserved_low : decode ⟨0x00#8, 0#32⟩ = .error (.reservedCode 0x00#8) := by decide
theorem test_decode_reserved_high : decode ⟨0x08#8, 0#32⟩ = .error (.reservedCode 0x08#8) ∧
    decode ⟨0xFF#8, 0#32⟩ = .error (.reservedCode 0xFF#8) := by decide
/-- R59's listing example, 04 00001E84  T2MS #7812, in decimal and in hexadecimal. -/
theorem test_assemble_operand : assembleLine ['T', '2', 'M', 'S', ' ', ' ', '#', '7', '8', '1', '2'] = some (.t2ms 7812) ∧
    assembleLine ['T', '2', 'U', 'S', ' ', '#', '0', 'x', '1', 'E', '8', '4'] = some (.t2us 0x1E84) ∧
    listing (.t2ms 7812) = (0x04#8, some 0x00001E84#32) := by decide
theorem test_assemble_plain : assembleLine ['R', 'E', 'A', 'D', 'W'] = some (.readw 0) ∧
    listing (.readw 0) = (0x03#8, none) ∧ assembleLine ['R', 'E', 'A', 'D', 'W', ' ', '#', '1'] = none ∧
    assembleLine ['T', '2', 'U', 'S'] = none := by decide
/-- R60: `tick*3` is three TICK steps, `step R16_H1` one READER step. -/
theorem test_program_lines : (readProgramLine ['t', 'i', 'c', 'k', '*', '3']).map lineMoves = some [.tick, .tick, .tick] ∧
    (readProgramLine ['s', 't', 'e', 'p', ' ', 'R', '1', '6', '_', 'H', '1']).map lineMoves = some [.reader] ∧
    (readProgramLine ['I', 'N', 'I', 'T']).map lineMoves = some [.issue ⟨0x01#8, 0#32⟩] := by decide

/-! ### Well-formedness: an ill-formed term for each check, and a well-formed one beside it -/

theorem test_wf_clock_too_slow : (clock 999 1024 true).wf = false ∧ (clock 1000 1024 true).wf = true := by decide
theorem test_wf_clock_too_fast :
    (clock 4294967296 1024 true).wf = false ∧ (clock 4294967295 1024 true).wf = true := by decide
theorem test_wf_readw : Instr.wf (narrow 0) (.readw 0) = false ∧ Instr.wf (wide 0) (.readw 0) = true := by decide
theorem test_wf_ms : Instr.wf { narrow 0 with enMs := false } (.t2ms 0) = false ∧
    Instr.wf { narrow 0 with enMs := false } (.nowms 0) = false ∧ Instr.wf (narrow 0) (.t2ms 0) = true := by decide
theorem test_wf_us : Instr.wf { narrow 0 with enUs := false } (.t2us 0) = false ∧
    Instr.wf { narrow 0 with enUs := false } (.nowus 0) = false ∧ Instr.wf (narrow 0) (.nowus 0) = true := by decide
theorem test_ill_formed_configuration_has_no_run :
    step (State.resetWith (clock 999 1024 true)) = .refused .illFormedConfig := by rfl

/-! ### Host steps and faults (95_test_vectors.md section 2) -/

/-- DEC-1, DEC-2. -/
theorem test_dec1_dec2_status_at_reset : statusView (State.resetWith (narrow 0)) = 0x00#8 ∧
    statusView (State.resetWith (wide 0)) = 0x08#8 := by decide
/-- DEC-5. -/
theorem test_dec5_reserved_code : nextState (runEvent (.issue ⟨0x00#8, 0⟩) (ready (narrow 0)))
    (fun t => t.flt == 1#3 && statusView t == 0x12#8) = true := by decide
/-- DEC-7: the decode check comes before the INIT check. -/
theorem test_dec7_left_out_first : nextState (runEvent (.issue ⟨0x03#8, 0⟩) (State.resetWith (narrow 0)))
    (fun t => t.flt == 1#3 && statusView t == 0x10#8) = true := by decide
/-- DEC-10, through the fetch path from reset. -/
theorem test_dec10_not_initialised : nextState (step (State.reset.withFetchWord 8 0x02))
    (fun t => t.flt == 2#3 && t.cmd == 0x00#8) = true := by decide
/-- DEC-14, DEC-15. -/
theorem test_dec14_rdres_busy : nextState (runEvent .rdres (running (narrow 0) 0x02#8 .r16H1))
    (fun t => statusView t == 0x43#8) = true := by decide
theorem test_dec15_rdres_unwritten : nextState (runEvent .rdres (ready (narrow 0)))
    (fun t => statusView t == 0x52#8) = true := by decide
/-- DEC-16: ISSUE has no step after a fault. -/
theorem test_dec16_issue_after_fault :
    nextState (runEvent (.issue ⟨0x01#8, 0⟩) { State.resetWith (narrow 0) with flt := 2#3 })
      (fun t => statusView t == 0x20#8 && t.ph == .idle) = true := by decide

/-! ### Two vectors for each command, one step each -/

/-- DEC-3, DEC-12, DEC-13. -/
theorem test_init_issue : nextState (exec (.init 0) (State.resetWith (narrow 0)))
    (fun t => statusView t == 0x01#8 && t.ph == .initX) = true ∧
    nextState (exec (.init 0) (ready (narrow 0))) (fun t => statusView t == 0x32#8) = true ∧
    nextState (exec (.init 0) { State.resetWith (narrow 0) with busy := true, ph := .initX })
      (fun t => statusView t == 0x41#8) = true := by decide
/-- IN-2: PS = 101, ARMED = 1, HW kept. -/
theorem test_init_step : nextState
    (readerStep { State.resetWith (wide 0xABCD) with busy := true, ph := .initX, cmd := 0x01#8 })
    (fun t => t.ps == 0b101#3 && t.armed && t.hw == 0xABCD#16 && t.initd && !t.busy && !t.rv) = true := by decide
/-- V16-3: a carry between the byte reads is rejected and retried. -/
theorem test_read16_retries : nextState
    (readerStep { running (narrow 0) 0x02#8 .r16H2 with hw := 0x1300, h1 := 0x12, lo := 0x00, gt16 := 0x1300 })
    (fun t => t.ph == .r16H1 && t.a == 1 && t.busy) = true := by decide
/-- V16-8: 65536 ticks inside an attempt let a torn value through, and HZ_TORN16 records it. -/
theorem test_read16_torn : nextState
    (readerStep { running (narrow 0) 0x02#8 .r16H2 with hw := 0x12FF, h1 := 0x12, lo := 0xFF, gt16 := 0x13FF })
    (fun t => t.res == 0x000012FF#32 && t.rv && t.hzTorn16 && t.a == 1) = true := by decide
/-- VWF-2: the PEND correction of the wide fallback. -/
theorem test_readw_snapshot : nextState
    (readerStep { running (wide 0) 0x03#8 .wSnp with ovf := 4, pend := true, hw := 0, gw := 5 })
    (fun t => t.vt == 0x00050000#32 && t.gtw == 0x00050000#32 && !t.hzTornW && t.ph == .wRst) = true := by decide
/-- VWF-3: the corrected overflow count wraps modulo 2^16. -/
theorem test_readw_snapshot_wraps : nextState
    (readerStep { running (wide 0) 0x03#8 .wSnp with ovf := 0xFFFF, pend := true, hw := 3, gw := 0 })
    (fun t => t.vt == 0x00000003#32) = true := by decide
/-- DEC-18's operand on the ms side: program P9 reads 0x12345 as 0x2345. -/
theorem test_t2ms_operand : nextState (exec (.t2ms 0x00012345#32) (ready (clock 16000000 64 false)))
    (fun t => t.vt == 0x00002345#32 && t.ph == .conv) = true := by decide
/-- V-SRC-1: 7812 ticks at 8 MHz and 1024 are 999 ms. -/
theorem test_t2ms_conv : nextState (readerStep { running (narrow 0) 0x04#8 .conv with vt := 7812 })
    (fun t => t.res == 0x000003E7#32 && !t.busy && t.ph == .idle) = true := by decide
/-- DEC-18. -/
theorem test_t2us_operand : nextState (exec (.t2us 0xFFFF03E8#32) (ready (clock 16000000 64 false)))
    (fun t => t.vt == 1000#32 && t.arg == 0xFFFF03E8#32) = true := by decide
theorem test_t2us_conv : nextState (readerStep { running (clock 16000000 64 false) 0x05#8 .conv with vt := 1000 })
    (fun t => t.res == 0x00000FA0#32) = true := by decide
/-- R62: NOWMS enters READ16 when EN_WIDE = 0 and READWIDE when EN_WIDE = 1. -/
theorem test_nowms_entry : nextState (exec (.nowms 0) (ready (narrow 0))) (fun t => t.ph == .r16H1) = true ∧
    nextState (exec (.nowms 0) (ready (wide 0))) (fun t => t.ph == .wO1) = true := by decide
/-- P5: the accepted read of 7812 goes on to CONV. -/
theorem test_nowms_read : nextState
    (readerStep { running (narrow 0) 0x06#8 .r16H2 with hw := 0x1E84, h1 := 0x1E, lo := 0x84, gt16 := 0x1E84 })
    (fun t => t.vt == 0x00001E84#32 && t.ph == .conv) = true := by decide
/-- R95's example: 100 ticks at 1 MHz and divisor 8 are 800 us. -/
theorem test_nowus_conv : nextState (readerStep { running (clock 1000000 8 true) 0x07#8 .conv with vt := 100 })
    (fun t => t.res == 800#32) = true := by decide
theorem test_nowus_left_out : nextState (exec (.nowus 0) (ready { narrow 0 with enUs := false }))
    (fun t => t.flt == 1#3 && !t.busy) = true := by decide

/-! ### TICK and NOTIFY (95_test_vectors.md section 3) -/

/-- TK-3: a carry into HW[15:8] is no wrap. -/
theorem test_tk3_carry : nextState (tickStep { ready (wide 0) with hw := 0x00FF })
    (fun t => t.hw == 0x0100#16 && !t.pend) = true := by decide
/-- TK-5, TK-6: a wrap, and a lost overflow. -/
theorem test_tk6_lost : nextState (tickStep { ready (wide 0) with hw := 0xFFFF, gw := 7 })
    (fun t => t.hw == 0#16 && t.pend && t.gw == 8#16 && !t.hzLost) = true ∧
    nextState (tickStep { ready (wide 0) with hw := 0xFFFF, pend := true, gw := 8 })
      (fun t => t.pend && t.gw == 9#16 && t.hzLost) = true := by decide
/-- NT-2: OVF wraps modulo 2^16. -/
theorem test_nt2_notify : nextState (notifyStep { ready (wide 0) with pend := true, ovf := 0xFFFF })
    (fun t => t.ovf == 0#16 && !t.pend) = true := by decide
/-- NT-3, NT-5, NT-6. -/
theorem test_nt5_priority : readerEnabled { running (wide 0) 0x03#8 .r16L with pend := true } = false ∧
    readerEnabled { running (wide 0) 0x03#8 .wSnp with pend := true } = true ∧
    notifyEnabled { running (wide 0) 0x03#8 .wSnp with pend := true } = false := by decide

/-! ### The converter's table (95_test_vectors.md section 5) -/

/-- R137's example: 8.388608 s from one wrap to the next. -/
theorem test_wrap_period : (wrapPeriod (clock 8000000 1024 true)).1 * 1000000 =
    8388608 * (wrapPeriod (clock 8000000 1024 true)).2 := by decide
/-- CA16, CB16, CG16 at t = 65535. -/
theorem test_converter_narrow : ms (clock 8000000 1024 false) 65535 = 8388 ∧ us (clock 8000000 1024 false) 65535 = 65408 ∧
    ms (clock 16000000 64 false) 65535 = 262 ∧ us (clock 16000000 64 false) 65535 = 65532 ∧
    ms (clock 1000 1024 false) 65535 = 64512 ∧ us (clock 1000 1024 false) 65535 = 24576 := by decide
/-- CE32, CH32, CI32 at t = 2^32 - 1. -/
theorem test_converter_wide : ms (clock 11059200 1024 true) 4294967295 = 397682156 ∧
    us (clock 11059200 1024 true) 4294967295 = 2552357721 ∧ ms (clock 8000000 3 true) 4294967295 = 549755813 ∧
    us (clock 4000000 256 true) 4294967295 = 4294967232 := by decide

/-! ### Witnesses: the hypotheses of the statements are met together -/

/-- The structural invariant on the helper states. -/
theorem ready_inv (c : Config) : BlockInv (ready c) := by
  constructor <;> simp [ready, State.resetWith, suppressedPhase, attempt16Phase, read16Phase]

theorem ready_clean : Clean (ready (wide 0)) where
  inv := ready_inv _
  flt := rfl
  busy := rfl
  ph := rfl
  initd := rfl
  sup := rfl
  hzLost := rfl
  hzTorn16 := rfl
  hzTornW := rfl
  wide := fun _ => ⟨rfl, rfl, rfl, rfl⟩
  cmd := rfl

theorem ready_counted : OverflowCounted (ready (wide 0)) := fun _ _ _ => rfl

/-- A READW in its fallback's snapshot step, with a wrap pending inside the suppressed region. -/
def atSnapshot : State :=
  { running (wide 0) 0x03#8 .wSnp with ovf := 4, pend := true, gw := 5, b := 4, a := 1 }

theorem atSnapshot_inv : BlockInv atSnapshot := by
  constructor <;> decide

theorem witness_ReservedCodesOnlyFault : (0x08#8).toNat = 0 ∨ 8 ≤ (0x08#8).toNat := by decide
theorem witness_IssueChecksThenStarts : (ready (wide 0)).flt = 0#3 := by decide
theorem witness_FaultedBlockHasNoCommandStep : { ready (wide 0) with flt := 5#3 }.flt ≠ 0#3 := by decide
theorem witness_FaultsArePrecise : ∃ t, runEvent .rdres (ready (wide 0)) = .next t ∧ t.flt ≠ (ready (wide 0)).flt :=
  ⟨_, rfl, by decide⟩
theorem witness_FaultsArePrecise_issue :
    ∃ t, runEvent (.issue ⟨0x01#8, 0⟩) (ready (wide 0)) = .next t ∧ t.flt ≠ (ready (wide 0)).flt :=
  ⟨_, rfl, by decide⟩
theorem witness_FirstFaultSticks :
    ∃ t, step { ready (wide 0) with flt := 5#3, agenda := [.rdres] } = .next t ∧ (5#3 : BitVec 3) ≠ 0#3 :=
  ⟨_, rfl, by decide⟩
theorem witness_FirstFaultSticks_raised :
    ∃ t, step { ready (wide 0) with agenda := [.rdres] } = .next t ∧ t.flt ≠ (ready (wide 0)).flt :=
  ⟨_, rfl, by decide⟩
theorem witness_InitCompletes : (State.resetWith (wide 7)).flt = 0#3 ∧ (State.resetWith (wide 7)).busy = false ∧
    (State.resetWith (wide 7)).initd = false ∧ notifyEnabled (State.resetWith (wide 7)) = false := by decide
theorem witness_Read16Completes : acceptsCommands (ready (narrow 0x1234)) ∧
    notifyEnabled (ready (narrow 0x1234)) = false := ⟨⟨rfl, rfl, rfl⟩, rfl⟩
theorem witness_ReadwCompletes : acceptsCommands (ready (wide 0xFFFF)) ∧ (ready (wide 0xFFFF)).cfg.enWide = true ∧
    notifyEnabled (ready (wide 0xFFFF)) = false := ⟨⟨rfl, rfl, rfl⟩, rfl, rfl⟩
theorem witness_T2msCompletes : acceptsCommands (ready (narrow 0)) ∧ (ready (narrow 0)).cfg.enMs = true ∧
    notifyEnabled (ready (narrow 0)) = false := ⟨⟨rfl, rfl, rfl⟩, rfl, rfl⟩
theorem witness_T2usCompletes : acceptsCommands (ready (narrow 0)) ∧ (ready (narrow 0)).cfg.enUs = true ∧
    notifyEnabled (ready (narrow 0)) = false := ⟨⟨rfl, rfl, rfl⟩, rfl, rfl⟩
theorem witness_NowmsCompletes_narrow : acceptsCommands (ready (narrow 7812)) ∧ (ready (narrow 7812)).cfg.enMs = true ∧
    (ready (narrow 7812)).cfg.enWide = false ∧ notifyEnabled (ready (narrow 7812)) = false :=
  ⟨⟨rfl, rfl, rfl⟩, rfl, rfl, rfl⟩
theorem witness_NowmsCompletes_wide : acceptsCommands (ready (wide 100)) ∧ (ready (wide 100)).cfg.enMs = true ∧
    (ready (wide 100)).cfg.enWide = true ∧ notifyEnabled (ready (wide 100)) = false :=
  ⟨⟨rfl, rfl, rfl⟩, rfl, rfl, rfl⟩
theorem witness_NowusCompletes_narrow : acceptsCommands (ready (narrow 100)) ∧ (ready (narrow 100)).cfg.enUs = true ∧
    (ready (narrow 100)).cfg.enWide = false ∧ notifyEnabled (ready (narrow 100)) = false :=
  ⟨⟨rfl, rfl, rfl⟩, rfl, rfl, rfl⟩
theorem witness_NowusCompletes_wide : acceptsCommands (ready (wide 100)) ∧ (ready (wide 100)).cfg.enUs = true ∧
    (ready (wide 100)).cfg.enWide = true ∧ notifyEnabled (ready (wide 100)) = false :=
  ⟨⟨rfl, rfl, rfl⟩, rfl, rfl, rfl⟩
theorem witness_RdresReturnsTheResult : { ready (wide 0) with rv := true, res := 9 }.flt = 0#3 := by decide
theorem witness_StepRunsTheDecodedCommand : (ready (wide 0)).cfg.wf = true ∧
    { ready (wide 0) with agenda := [.issue ⟨0x02#8, 0⟩] }.agenda = .issue ⟨0x02#8, 0⟩ :: [] ∧
    decode ⟨0x02#8, 0⟩ = .ok (.read16 0) ∧ decodeTableWord 8 2 = some (.read16 0) := by decide
theorem witness_StepIsOneAgentStep : (State.resetWith (clock 999 1 true)).cfg.wf = false ∧
    { ready (wide 0) with agenda := [.tick] }.agenda = .tick :: [] ∧ (ready (wide 0)).agenda = [] ∧
    (ready (wide 0)).cfg.wf = true := by decide
theorem witness_AgendaRunsAsSchedule : (ready (wide 0)).cfg.wf = true ∧
    ∃ t, runSchedule [.issue ⟨0x03#8, 0⟩, .reader, .tick] (ready (wide 0)) = some t := ⟨rfl, _, rfl⟩
theorem witness_PrescalerSelection : (1 : Nat) ∈ [1, 8, 64, 256, 1024] ∧ (3 : Nat) ∉ [1, 8, 64, 256, 1024] := by decide
theorem witness_StepR16H1 : readerEnabled (running (narrow 0) 0x02#8 .r16H1) = true ∧
    (running (narrow 0) 0x02#8 .r16H1).ph = .r16H1 := by decide
theorem witness_StepR16L : readerEnabled (running (narrow 0) 0x02#8 .r16L) = true ∧
    (running (narrow 0) 0x02#8 .r16L).ph = .r16L := by decide
theorem witness_StepR16H2_accept : readerEnabled (running (narrow 0) 0x02#8 .r16H2) = true ∧
    (running (narrow 0) 0x02#8 .r16H2).hw.extractLsb' 8 8 = (running (narrow 0) 0x02#8 .r16H2).h1 := by decide
theorem witness_StepR16H2_retry : readerEnabled { running (narrow 0) 0x02#8 .r16H2 with h1 := 1, a := 2 } = true ∧
    ({ running (narrow 0) 0x02#8 .r16H2 with h1 := 1, a := 2 }.hw.extractLsb' 8 8 ≠ 1#8) ∧ 2 + 1 < 4 := by decide
theorem witness_StepR16H2_fallback : readerEnabled { running (narrow 0) 0x02#8 .r16H2 with h1 := 1, a := 3 } = true ∧
    ({ running (narrow 0) 0x02#8 .r16H2 with h1 := 1, a := 3 }.hw.extractLsb' 8 8 ≠ 1#8) ∧ 4 ≤ 3 + 1 := by decide
theorem witness_StepsOfTheRead16Fallback : readerEnabled (running (wide 0) 0x02#8 .r16Sup) = true ∧
    readerEnabled (running (wide 0) 0x02#8 .r16Smp) = true ∧
    readerEnabled (running (wide 0) 0x02#8 .r16Rst) = true := by decide
theorem witness_StepsOfTheWideAttempt : readerEnabled (running (wide 0) 0x03#8 .wO1) = true ∧
    readerEnabled (running (wide 0) 0x03#8 .wO2) = true ∧
    (running (wide 0) 0x03#8 .wO2).ovf = (running (wide 0) 0x03#8 .wO2).o1 := by decide
theorem witness_StepsOfTheWideAttempt_reject :
    readerEnabled { running (wide 0) 0x03#8 .wO2 with ovf := 1, b := 2 } = true ∧
    readerEnabled { running (wide 0) 0x03#8 .wO2 with ovf := 1, b := 3 } = true ∧
    (1#16 : Half) ≠ (running (wide 0) 0x03#8 .wO2).o1 := by decide
theorem witness_StepsOfTheWideFallback : readerEnabled (running (wide 0) 0x03#8 .wSup) = true ∧
    readerEnabled atSnapshot = true ∧ readerEnabled (running (wide 0) 0x03#8 .wRst) = true := by decide
theorem witness_Continuations : (running (wide 0) 0x06#8 .r16H2).cfg.enWide = true ∧
    (running (narrow 0) 0x06#8 .r16H2).cfg.enWide = false ∧ (running (narrow 0) 0x03#8 .r16H2).cmd = 0x03#8 ∧
    (running (wide 0) 0x04#8 .r16H2).cmd ≠ 0x02#8 := by decide
theorem witness_StepConv : readerEnabled (running (narrow 0) 0x04#8 .conv) = true ∧
    readerEnabled (running (narrow 0) 0x07#8 .conv) = true := by decide
theorem witness_ConversionFormulas : (clock 8000000 1024 true).fHz ∈ [1000000, 2000000, 4000000, 8000000] ∧
    (clock 16000000 64 true).fHz ∉ [1000000, 2000000, 4000000, 8000000] := by decide
theorem witness_ConversionBounds : (clock 1000 1024 false).wf = true ∧
    65535 < 2 ^ width (clock 1000 1024 false) := by decide
theorem witness_ZeroQuotient : exactMhz (clock 2000000 1 false) = true ∧ quotient (clock 2000000 1 false) = 0 ∧
    quotient (clock 8000000 8 false) = 1 := by decide
theorem witness_MicrosecondsAgreeWithMilliseconds : exactMhz (clock 8000000 1024 true) = true ∧
    7812 * quotient (clock 8000000 1024 true) < 2 ^ width (clock 8000000 1024 true) := by decide
theorem witness_PathsAgree : exactMhz (clock 8000000 1024 true) = true ∧
    fMhz (clock 8000000 1024 true) ∣ pEff (clock 8000000 1024 true) := by decide
theorem witness_ConversionMonotone : (511 : Nat) ≤ 512 ∧ usExact (clock 8000000 1024 true) 512 < 2 ^ 32 ∧
    msExact (clock 8000000 1024 true) 512 < 2 ^ 32 := by decide
theorem witness_ConversionIgnoresTheCounter : acceptsCommands (ready (wide 0)) ∧ noIssue [.tick, .reader] ∧
    ∃ t u, exec (.t2ms 5) (ready (wide 0)) = .next t ∧ runSchedule [.tick, .reader] t = some u ∧ u.busy = false :=
  ⟨⟨rfl, rfl, rfl⟩, by unfold noIssue; decide, _, _, rfl, rfl, rfl⟩
theorem witness_TickCountsAndWraps : tickEnabled (ready (wide 0xFFFF)) = true ∧ (ready (wide 0xFFFF)).ps ≠ 6#3 ∧
    (ready (wide 0xFFFF)).ps ≠ 7#3 ∧ (ready (wide 0xFFFF)).hw = 0xFFFF#16 ∧ (ready (wide 0)).hw ≠ 0xFFFF#16 := by decide
theorem witness_NotifyCountsTheWrap : notifyEnabled { ready (wide 0) with pend := true } = true := by decide
theorem witness_NotifyGoesFirst : ∃ t, notifyEnabled { running (wide 0) 0x03#8 .wO1 with pend := true } = true ∧
    runEvent .notify { running (wide 0) 0x03#8 .wO1 with pend := true } = .next t ∧
    { running (wide 0) 0x03#8 .wO1 with pend := true }.flt = 0#3 ∧
    { running (wide 0) 0x03#8 .wO1 with pend := true }.ph ≠ .idle := ⟨_, rfl, rfl, rfl, by decide⟩
theorem witness_DisabledMovesChangeNothing : (State.resetWith (wide 0)).ps = 0#3 ∧
    notifyEnabled (ready (wide 0)) = false ∧ readerEnabled (ready (wide 0)) = false ∧
    stopsWith (tickStep { ready (wide 0) with ps := 6#3 }) .illegalClockSelect = true := by decide
theorem witness_SingleWriters_wrap : ∃ t, runEvent .tick (ready (wide 0xFFFF)) = .next t ∧
    t.pend ≠ (ready (wide 0xFFFF)).pend := ⟨_, rfl, by decide⟩
theorem witness_SingleWriters : ∃ t, runEvent .tick (ready (wide 0)) = .next t ∧ t.hw ≠ (ready (wide 0)).hw :=
  ⟨_, rfl, by decide⟩
theorem witness_SamplesHaveNoSideEffect : (running (wide 0) 0x03#8 .wO1).ph ≠ .initX ∧
    ∃ t, runEvent .reader (running (wide 0) 0x03#8 .wO1) = .next t := ⟨by decide, _, rfl⟩
theorem witness_EveryStepKeepsTheInvariant : BlockInv atSnapshot ∧
    ∃ t, step { atSnapshot with agenda := [.reader] } = .next t := ⟨atSnapshot_inv, _, rfl⟩
theorem witness_NoStepStopsTheModel : BlockInv atSnapshot ∧ atSnapshot.cfg.wf = true := ⟨atSnapshot_inv, by decide⟩
theorem witness_OverflowInvariantKept : BlockInv atSnapshot ∧ OverflowCounted atSnapshot ∧
    ∃ t, step { atSnapshot with agenda := [.tick] } = .next t :=
  ⟨atSnapshot_inv, fun _ _ _ => by decide, _, rfl⟩
theorem witness_ReaderSeesEveryWrap : BlockInv atSnapshot ∧ OverflowCounted atSnapshot ∧ atSnapshot.hzLost = false ∧
    atSnapshot.initd = true ∧ atSnapshot.cfg.enWide = true ∧ readerEnabled atSnapshot = true ∧ atSnapshot.ph = .wSnp :=
  ⟨atSnapshot_inv, fun _ _ _ => by decide, by decide⟩
theorem witness_ReaderSeesEveryWrap_unsuppressed : BlockInv (running (wide 0) 0x03#8 .wO1) ∧
    OverflowCounted (running (wide 0) 0x03#8 .wO1) ∧ readerEnabled (running (wide 0) 0x03#8 .wO1) = true ∧
    (running (wide 0) 0x03#8 .wO1).sup = false :=
  ⟨by constructor <;> decide, fun _ _ _ => by decide, by decide⟩
theorem witness_Read16AttemptSound : ∃ s s₀ s₁ s₂ u t : State, s.busy = true ∧ s.ph = .r16H1 ∧ readerEnabled s = true ∧
    runEvent .reader s = .next s₀ ∧ runSchedule [.tick] s₀ = some s₁ ∧ readerEnabled s₁ = true ∧
    runEvent .reader s₁ = .next s₂ ∧ runSchedule [.tick, .notify] s₂ = some u ∧ readerEnabled u = true ∧
    runEvent .reader u = .next t ∧ ticksTaken [.tick] s₀ + ticksTaken [.tick, .notify] s₂ ≤ 65280 ∧
    sampleHwh u = u.h1 :=
  ⟨running (narrow 0) 0x02#8 .r16H1, _, _, _, _, _, rfl, rfl, rfl, rfl, rfl, rfl, rfl, rfl, rfl, rfl,
    by decide, by decide⟩
theorem witness_TornFreeUnderTheHazardPremises : Clean (ready (wide 0)) ∧
    (∃ u, runSchedule [.issue ⟨0x02#8, 0⟩, .reader, .tick, .reader, .reader] (ready (wide 0)) = some u ∧
      u.busy = false ∧ u.cmd = 0x02#8) ∧
    hazardsKept [.issue ⟨0x02#8, 0⟩, .reader, .tick, .reader, .reader] (ready (wide 0)) Monitor.start = true :=
  ⟨ready_clean, ⟨_, rfl, rfl, rfl⟩, by decide⟩
theorem witness_TrueTickCountsEveryTick : BlockInv (ready (wide 0)) ∧ (ready (wide 0)).initd = true ∧
    ∃ u, runSchedule [.tick, .tick] (ready (wide 0)) = some u := ⟨ready_inv _, rfl, _, rfl⟩
/-- The moves of one READW with no TICK in it. -/
def wideRead : List Event :=
  [.issue ⟨0x03#8, 0⟩, .reader, .reader, .reader, .reader, .reader]
theorem witness_WideReadsAreMonotone : Clean (ready (wide 0)) ∧ (ready (wide 0)).cfg.enWide = true ∧
    ∃ u v, runSchedule wideRead (ready (wide 0)) = some u ∧ runSchedule (.tick :: wideRead) u = some v ∧
      hazardsKept (wideRead ++ .tick :: wideRead) (ready (wide 0)) Monitor.start = true ∧
      (trueTick (ready (wide 0))).toNat + ticksTaken (wideRead ++ .tick :: wideRead) (ready (wide 0)) < 2 ^ 32 ∧
      u.cmd = 0x03#8 ∧ u.busy = false ∧ v.cmd = 0x03#8 ∧ v.busy = false :=
  ⟨ready_clean, rfl, _, _, rfl, rfl, by decide, by decide, rfl, rfl, rfl, rfl⟩
theorem witness_Read16IsIdempotentWithoutTicks : BlockInv (ready (narrow 5)) ∧ acceptsCommands (ready (narrow 5)) ∧
    noIssue [.reader, .reader, .reader] ∧
    ∃ t u, exec (.read16 0) (ready (narrow 5)) = .next t ∧ runSchedule [.reader, .reader, .reader] t = some u ∧
      ticksTaken [.reader, .reader, .reader] t = 0 ∧ u.busy = false :=
  ⟨ready_inv _, ⟨rfl, rfl, rfl⟩, by unfold noIssue; decide, _, _, rfl, rfl, by decide, rfl⟩
theorem witness_CommandsTakeBoundedReaderSteps : BlockInv (ready (wide 0)) ∧ (ready (wide 0)).busy = false ∧
    noIssue [.reader] ∧
    ∃ t u, exec (.readw 0) (ready (wide 0)) = .next t ∧ t.busy = true ∧ runSchedule [.reader] t = some u :=
  ⟨ready_inv _, rfl, by unfold noIssue; decide, _, _, rfl, rfl, rfl⟩
/-- Where the READER's next step reaches a state in which it has none, moves of the READER alone stay there. -/
theorem trace_of_last_step {s t : State} (h : runEvent .reader s = .next t) (ht : runEvent .reader t = .next t)
    (n : Nat) : trace (fun _ => .reader) s (n + 1) = t := by
  induction n with
  | zero => simp [trace, h]
  | succ n ih => rw [trace, ih]; simp [ht]

/-- Such a schedule is weakly fair to NOTIFY if NOTIFY is not enabled at its end. -/
theorem weaklyFair_of_last_step {s t : State} (h : runEvent .reader s = .next t) (ht : runEvent .reader t = .next t)
    (hn : notifyEnabled t = false) : WeaklyFair .notify notifyEnabled (fun _ => .reader) s := by
  intro n hm
  have he := hm (n + 1) (by omega)
  rw [trace_of_last_step h ht, hn] at he
  cases he

/-- A schedule of READER moves alone is weakly fair to the READER. -/
theorem weaklyFair_reader (s : State) : WeaklyFair .reader readerEnabled (fun _ => .reader) s :=
  fun n _ => ⟨n, le_rfl, rfl⟩

/-- Such a schedule is one of R123's if its end leaves NOTIFY no step to take. -/
theorem fairRun_of_last_step {s t : State} (h : runEvent .reader s = .next t) (ht : runEvent .reader t = .next t)
    (hn : notifyEnabled t = false) : FairRun (fun _ => .reader) s :=
  ⟨weaklyFair_of_last_step h ht hn, weaklyFair_reader s⟩

/-- It schedules the READER if its end leaves the READER no step to take. -/
theorem scheduled_of_last_step {s t : State} (h : runEvent .reader s = .next t) (ht : runEvent .reader t = .next t)
    (hp : readerPending t = false) : ReaderScheduled (fun _ => .reader) s := by
  intro n hm
  have he := hm (n + 1) (by omega)
  rw [trace_of_last_step h ht, hp] at he
  cases he

/-- A T2MS about to complete. -/
def atConv (c : Config) : State :=
  running c 0x04#8 .conv

/-- An INIT about to complete. -/
def atInit : State :=
  { State.resetWith (wide 0) with busy := true, ph := .initX, cmd := 0x01#8 }

/-- On the schedule of READER moves alone, a T2MS in progress meets the fairness premises. -/
theorem witness_CommandsCompleteUnderStrongFairness :
    BlockInv (atConv (narrow 0)) ∧ (atConv (narrow 0)).flt = 0#3 ∧ (atConv (narrow 0)).busy = true ∧
    WeaklyFair .notify notifyEnabled (fun _ => .reader) (atConv (narrow 0)) ∧
    StronglyFair .reader readerEnabled (fun _ => .reader) (atConv (narrow 0)) := by
  refine ⟨by constructor <;> decide, rfl, rfl, weaklyFair_of_last_step rfl rfl rfl, fun h n => ?_⟩
  obtain ⟨m, hm, he⟩ := h n
  exact ⟨m, hm, rfl, he⟩

/-- An accepted T2MS meets the premises of clauses 1 to 3, with EN_WIDE = 1. -/
theorem witness_CommandsCompleteUnderWeakFairness_accepted :
    BlockInv (ready (wide 0)) ∧ (ready (wide 0)).busy = false ∧
    ∃ s, exec (.t2ms 5) (ready (wide 0)) = .next s ∧ s.busy = true ∧ FairRun (fun _ => .reader) s ∧
      TicksNumbered (fun _ => .reader) s ∧ ReaderScheduled (fun _ => .reader) s :=
  ⟨ready_inv _, rfl, _, rfl, rfl, fairRun_of_last_step rfl rfl rfl, fun _ _ => ⟨0, fun _ _ => rfl⟩,
    scheduled_of_last_step rfl rfl rfl⟩

/-- The three cases of clause 4: EN_WIDE = 0, INIT, and a schedule without NOTIFY steps when EN_WIDE = 1. -/
theorem witness_CommandsCompleteUnderWeakFairness :
    BlockInv (atConv (narrow 0)) ∧ (atConv (narrow 0)).flt = 0#3 ∧ (atConv (narrow 0)).busy = true ∧
    FairRun (fun _ => .reader) (atConv (narrow 0)) ∧ (atConv (narrow 0)).cfg.enWide = false :=
  ⟨by constructor <;> decide, rfl, rfl, fairRun_of_last_step rfl rfl rfl, rfl⟩
theorem witness_CommandsCompleteUnderWeakFairness_init :
    BlockInv atInit ∧ atInit.flt = 0#3 ∧ atInit.busy = true ∧ FairRun (fun _ => .reader) atInit ∧
    atInit.initd = false :=
  ⟨by constructor <;> decide, rfl, rfl, fairRun_of_last_step rfl rfl rfl, rfl⟩
theorem witness_CommandsCompleteUnderWeakFairness_wide :
    BlockInv (atConv (wide 0)) ∧ (atConv (wide 0)).flt = 0#3 ∧ (atConv (wide 0)).busy = true ∧
    FairRun (fun _ => .reader) (atConv (wide 0)) ∧
    ∃ n, ∀ m, n ≤ m → takesNotify .reader (trace (fun _ => .reader) (atConv (wide 0)) m) = false :=
  ⟨by constructor <;> decide, rfl, rfl, fairRun_of_last_step rfl rfl rfl, 0, fun _ _ => rfl⟩

/-! ### Witnesses for the further clauses of statements with several -/

theorem witness_EncodedCommandDecodesToItself : decode ⟨0x04#8, 7812#32⟩ = .ok (.t2ms 7812#32) := by decide
theorem witness_ResetValues : State.resetWith (wide 0xABCD) = State.resetWith (wide 0xABCD) := rfl
theorem witness_MicrosecondsAgreeWithMilliseconds_reduced : (clock 8000000 1024 false).fHz = 8000000 ∧
    (clock 8000000 1024 false).pReq = 1024 ∧ (clock 8000000 1024 false).enWide = false := by decide
theorem witness_ConversionIgnoresTheCounter_us : acceptsCommands (ready (wide 0)) ∧ noIssue [.tick, .reader] ∧
    ∃ t u, exec (.t2us 5) (ready (wide 0)) = .next t ∧ runSchedule [.tick, .reader] t = some u ∧ u.busy = false :=
  ⟨⟨rfl, rfl, rfl⟩, by unfold noIssue; decide, _, _, rfl, rfl, rfl⟩
theorem witness_OverflowInvariantKept_init : atInit.ph = .initX ∧ readerEnabled atInit = true ∧
    ∃ t, runEvent .reader atInit = .next t := ⟨rfl, rfl, _, rfl⟩
theorem witness_TornFreeUnderTheHazardPremises_wide : Clean (ready (wide 0)) ∧
    (∃ u, runSchedule wideRead (ready (wide 0)) = some u ∧ u.busy = false ∧ u.cmd = 0x03#8) ∧
    hazardsKept wideRead (ready (wide 0)) Monitor.start = true := ⟨ready_clean, ⟨_, rfl, rfl, rfl⟩, by decide⟩
/-- The moves of one NOWMS or NOWUS with EN_WIDE and no TICK in it. -/
def wideNow (code : Byte) : List Event :=
  .issue ⟨code, 0⟩ :: List.replicate 6 .reader
theorem witness_TornFreeUnderTheHazardPremises_now :
    (∃ u, runSchedule (wideNow 0x06#8) (ready (wide 0)) = some u ∧ u.busy = false ∧ u.cmd = 0x06#8) ∧
    (∃ u, runSchedule (wideNow 0x07#8) (ready (wide 0)) = some u ∧ u.busy = false ∧ u.cmd = 0x07#8) ∧
    hazardsKept (wideNow 0x06#8) (ready (wide 0)) Monitor.start = true ∧
    hazardsKept (wideNow 0x07#8) (ready (wide 0)) Monitor.start = true :=
  ⟨⟨_, rfl, rfl, rfl⟩, ⟨_, rfl, rfl, rfl⟩, by decide, by decide⟩
theorem witness_CommandsTakeBoundedReaderSteps_completed : noIssue [.reader] ∧
    ∃ t u, exec (.t2ms 5) (ready (narrow 0)) = .next t ∧ t.busy = true ∧ runSchedule [.reader] t = some u ∧
      u.busy = false := ⟨by unfold noIssue; decide, _, _, rfl, rfl, rfl, rfl⟩

end Sys2Proof.Tests
end

section
/-! PROOFS. One transition of the machine and the schedule it runs (spec/00_scope.md R4 and R7, spec/20_memory.md R46):
no agent reads or writes the agenda or writes the configuration, so a placed agenda runs as that schedule. -/

namespace Sys2Proof.Scope

open Sys2Proof.Machine Sys2Proof.Safety
open Host (Outcome)

/-! ### Outcomes and schedules -/

@[simp] theorem mapNext_next (f : State → State) (s : State) : mapNext f (.next s) = .next (f s) := rfl

/-- A schedule runs iff its first move answers a state from which the rest runs. -/
theorem runSchedule_cons_eq_some {ev : Event} {evs : List Event} {s t : State} :
    runSchedule (ev :: evs) s = some t ↔ ∃ u, runEvent ev s = .next u ∧ runSchedule evs u = some t := by
  rw [runSchedule]
  cases runEvent ev s <;> simp

/-- One more step of the machine, where that step answers a state. -/
theorem core_run_succ_of_step {s u : State} (h : step s = .next u) (n : Nat) :
    core.run (n + 1) s = core.run n u := by
  have hc : core.step s = .next u := h
  simp only [Host.Core.run, hc]

/-! ### One step is one agent's step (R4, R7) -/

/-- An ill-formed configuration has no step (R7). -/
theorem step_of_ill_formed {s : State} (h : s.cfg.wf = false) : step s = .refused .illFormedConfig := by
  simp [step, h]

/-- A placed move is the one the step takes. -/
theorem step_of_agenda_cons {s : State} {ev : Event} {rest : List Event} (hw : s.cfg.wf = true)
    (ha : s.agenda = ev :: rest) : step s = runEvent ev { s with agenda := rest } := by
  simp [step, nextMove, hw, ha]

/-- With nothing placed, the step takes a free move (R113). -/
theorem step_of_agenda_nil {s : State} (hw : s.cfg.wf = true) (ha : s.agenda = []) :
    step s = runEvent (Config.freeEvent s.drawn) { s with drawn := s.drawn + 1 } := by
  simp [step, nextMove, hw, ha]

/-- A placed ISSUE of a transaction that decodes to a command runs that command (R61). -/
theorem step_of_agenda_issue {s : State} {tx : Transaction} {i : Instr} {rest : List Event} (hw : s.cfg.wf = true)
    (ha : s.agenda = .issue tx :: rest) (hd : decode tx = .ok i) : step s = exec i { s with agenda := rest } := by
  rw [step_of_agenda_cons hw ha]
  exact issueTransaction_of_decode hd _

/-- What the table's bits decode to is what the port's transaction decodes to. -/
theorem decodeTableWord_eq_some {nbits w : Nat} {i : Instr} :
    decodeTableWord nbits w = some i ↔ decode (transactionOfBits nbits w) = .ok i := by
  unfold decodeTableWord
  cases decode (transactionOfBits nbits w) <;> simp [Except.toOption]

/-! ### No move writes the configuration (R5) -/

theorem enterNow_cfg (s : State) : (enterNow s).cfg = s.cfg := by
  unfold enterNow
  split <;> rfl

theorem firstOf_cfg (s : State) (i : Instr) (t : State) : (firstOf s i t).cfg = t.cfg := by
  cases i with
  | nowms | nowus => exact enterNow_cfg t
  | init | read16 | readw | t2ms | t2us => rfl

theorem issue_keeps_cfg {code : Byte} {arg : Word} {first : State → State} (hfirst : ∀ t, (first t).cfg = t.cfg)
    {s t : State} (h : issue code arg first s = .next t) : t.cfg = s.cfg := by
  obtain ⟨-, h⟩ | ⟨f, -, -, h⟩ | ⟨-, -, h⟩ := issue_cases h <;> cases h
  · rfl
  · rfl
  · exact hfirst _

theorem issueTransaction_keeps_cfg {tx : Transaction} {s t : State} (h : issueTransaction tx s = .next t) :
    t.cfg = s.cfg := by
  cases hd : decode tx with
  | ok i =>
    rw [issueTransaction_of_decode hd, exec_eq_issue] at h
    exact issue_keeps_cfg (firstOf_cfg s i) h
  | error e =>
    rw [issueTransaction_of_reserved hd] at h
    exact issue_keeps_cfg (fun _ => rfl) h

theorem ret16_keeps_cfg {v : Half} {s t : State} (h : ret16 v s = .next t) : t.cfg = s.cfg := by
  obtain ⟨-, h⟩ | ⟨-, -, h⟩ | ⟨-, -, h⟩ | ⟨-, h⟩ := ret16_cases h <;> cases h <;> rfl

theorem retW_keeps_cfg {v : Word} {s t : State} (h : retW v s = .next t) : t.cfg = s.cfg := by
  obtain ⟨-, h⟩ | ⟨-, h⟩ | ⟨-, h⟩ := retW_cases h <;> cases h <;> rfl

theorem phaseR16H2_keeps_cfg {s t : State} (h : phaseR16H2 s = .next t) : t.cfg = s.cfg := by
  obtain ⟨-, h⟩ | ⟨-, -, h⟩ | ⟨-, -, h⟩ := phaseR16H2_cases h
  · exact ret16_keeps_cfg (s := accept16 _ (recheck16 s)) h.symm
  · cases h; rfl
  · cases h; rfl

theorem phaseWO2_keeps_cfg {s t : State} (h : phaseWO2 s = .next t) : t.cfg = s.cfg := by
  obtain ⟨-, h⟩ | ⟨-, -, h⟩ | ⟨-, -, h⟩ := phaseWO2_cases h
  · exact retW_keeps_cfg (s := acceptW _ (recheckW s)) h.symm
  · cases h; rfl
  · cases h; rfl

theorem armOverflow_cfg (s : State) : (armOverflow s).cfg = s.cfg := by
  unfold armOverflow
  split <;> rfl

theorem microStep_keeps_cfg {s t : State} (h : microStep s = .next t) : t.cfg = s.cfg := by
  unfold microStep at h
  cases hp : s.ph with
  | initX =>
    rw [hp] at h
    cases h
    exact armOverflow_cfg s
  | r16H2 => rw [hp] at h; exact phaseR16H2_keeps_cfg h
  | r16Rst => rw [hp] at h; exact ret16_keeps_cfg (s := { s with sup := false }) h
  | wO2 => rw [hp] at h; exact phaseWO2_keeps_cfg h
  | wRst => rw [hp] at h; exact retW_keeps_cfg (s := { s with sup := false }) h
  | idle | r16H1 | r16L | r16Sup | r16Smp | wO1 | wSup | wSnp | conv => rw [hp] at h; cases h; rfl

/-- No move writes the configuration (R5). -/
theorem runEvent_keeps_cfg {ev : Event} {s t : State} (h : runEvent ev s = .next t) : t.cfg = s.cfg := by
  cases ev with
  | tick => obtain ⟨-, h⟩ | ⟨-, h⟩ | ⟨-, -, h⟩ | ⟨-, -, h⟩ := tickStep_cases h <;> cases h <;> rfl
  | notify => obtain ⟨-, h⟩ | ⟨-, h⟩ := notifyStep_cases h <;> cases h <;> rfl
  | reader =>
    obtain ⟨-, h⟩ | ⟨-, h⟩ := readerStep_cases h
    · cases h; rfl
    · exact microStep_keeps_cfg h.symm
  | issue tx => exact issueTransaction_keeps_cfg h
  | rdres => obtain ⟨-, h⟩ | ⟨-, -, h⟩ | ⟨-, -, -, h⟩ | ⟨-, -, -, h⟩ := hostRdres_cases h <;> cases h <;> rfl
  | rdstat => cases h; rfl

/-! ### No move reads or writes the agenda (log 2) -/

/-- The state with the moves `evs` placed, in the place of what was there. -/
def withAgenda (evs : List Event) (s : State) : State :=
  { s with agenda := evs }

/-- The operation neither reads nor writes the agenda. -/
def AgendaBlind (op : State → Outcome State Fault Refusal) : Prop :=
  ∀ evs s, op (withAgenda evs s) = mapNext (withAgenda evs) (op s)

theorem enterNow_withAgenda (evs : List Event) (s : State) :
    enterNow (withAgenda evs s) = withAgenda evs (enterNow s) :=
  (apply_ite (withAgenda evs) (s.cfg.enWide = true) (enterW s) (enter16 s)).symm

theorem armOverflow_withAgenda (evs : List Event) (s : State) :
    armOverflow (withAgenda evs s) = withAgenda evs (armOverflow s) := by
  simp only [armOverflow, apply_ite (withAgenda evs)]
  rfl

theorem firstOf_withAgenda (evs : List Event) (s : State) (i : Instr) (t : State) :
    firstOf (withAgenda evs s) i (withAgenda evs t) = withAgenda evs (firstOf s i t) := by
  cases i with
  | nowms | nowus => exact enterNow_withAgenda evs t
  | init | read16 | readw | t2ms | t2us => rfl

/-- ISSUE with first phases that agree up to the agenda answers states that agree up to the agenda. -/
theorem issue_withAgenda {first first' : State → State} {evs : List Event}
    (hfirst : ∀ t, first' (withAgenda evs t) = withAgenda evs (first t)) (code : Byte) (arg : Word) (s : State) :
    issue code arg first' (withAgenda evs s) = mapNext (withAgenda evs) (issue code arg first s) := by
  have hfree : faultFree (withAgenda evs s) = faultFree s := rfl
  have hfault : issueFault code (withAgenda evs s) = issueFault code s := rfl
  unfold issue
  rw [hfree, hfault]
  cases faultFree s with
  | false => rfl
  | true =>
    cases issueFault code s with
    | some f => rfl
    | none => exact congrArg Outcome.next (hfirst (accept code arg s))

theorem issueTransaction_agendaBlind (tx : Transaction) : AgendaBlind (issueTransaction tx) := by
  intro evs s
  cases hd : decode tx with
  | ok i =>
    simp only [issueTransaction_of_decode hd, exec_eq_issue]
    exact issue_withAgenda (firstOf_withAgenda evs s i) _ _ s
  | error e =>
    simp only [issueTransaction_of_reserved hd]
    exact issue_withAgenda (first := fun t => t) (first' := fun t => t) (fun _ => rfl) _ _ s

theorem ret16_agendaBlind (v : Half) : AgendaBlind (ret16 v) := by
  intro evs s
  simp only [ret16, apply_ite (mapNext (withAgenda evs))]
  rfl

theorem retW_agendaBlind (v : Word) : AgendaBlind (retW v) := by
  intro evs s
  simp only [retW, apply_ite (mapNext (withAgenda evs))]
  rfl

theorem phaseInitX_agendaBlind : AgendaBlind phaseInitX := fun evs s =>
  congrArg (fun t => Outcome.next (complete (startCounter t))) (armOverflow_withAgenda evs s)

theorem phaseR16H2_agendaBlind : AgendaBlind phaseR16H2 := by
  intro evs s
  simp only [phaseR16H2, apply_ite (mapNext (withAgenda evs)), ← ret16_agendaBlind _ evs]
  rfl

theorem phaseWO2_agendaBlind : AgendaBlind phaseWO2 := by
  intro evs s
  simp only [phaseWO2, apply_ite (mapNext (withAgenda evs)), ← retW_agendaBlind _ evs]
  rfl

theorem microStep_agendaBlind : AgendaBlind microStep := by
  intro evs s
  have hph : (withAgenda evs s).ph = s.ph := rfl
  unfold microStep
  rw [hph]
  cases s.ph with
  | initX => exact phaseInitX_agendaBlind evs s
  | r16H2 => exact phaseR16H2_agendaBlind evs s
  | r16Rst => exact ret16_agendaBlind s.v16 evs { s with sup := false }
  | wO2 => exact phaseWO2_agendaBlind evs s
  | wRst => exact retW_agendaBlind s.vt evs { s with sup := false }
  | idle | r16H1 | r16L | r16Sup | r16Smp | wO1 | wSup | wSnp | conv => rfl

theorem readerStep_agendaBlind : AgendaBlind readerStep := by
  intro evs s
  simp only [readerStep, apply_ite (mapNext (withAgenda evs)), ← microStep_agendaBlind evs s]
  rfl

theorem notifyStep_agendaBlind : AgendaBlind notifyStep := by
  intro evs s
  simp only [notifyStep, apply_ite (mapNext (withAgenda evs))]
  rfl

theorem countTick_withAgenda (evs : List Event) (s : State) :
    countTick (withAgenda evs s) = withAgenda evs (countTick s) :=
  (apply_ite (withAgenda evs) (atMaximum s = true) (wrapCounter s) (advanceCounter s)).symm

theorem tickStep_agendaBlind : AgendaBlind tickStep := by
  intro evs s
  simp only [tickStep, apply_ite (mapNext (withAgenda evs)), mapNext_next, countTick_withAgenda]
  rfl

theorem readResult_withAgenda (evs : List Event) (s : State) :
    readResult (withAgenda evs s) = withAgenda evs (readResult s) := by
  simp only [readResult, apply_ite (withAgenda evs)]
  rfl

theorem hostRdres_agendaBlind : AgendaBlind hostRdres := by
  intro evs s
  simp only [hostRdres, mapNext_next, apply_ite (withAgenda evs), readResult_withAgenda]
  rfl

/-- No move of any agent reads or writes the agenda. -/
theorem runEvent_agendaBlind (ev : Event) : AgendaBlind (runEvent ev) := by
  cases ev with
  | tick => exact tickStep_agendaBlind
  | notify => exact notifyStep_agendaBlind
  | reader => exact readerStep_agendaBlind
  | issue tx => exact issueTransaction_agendaBlind tx
  | rdres => exact hostRdres_agendaBlind
  | rdstat => exact fun _ _ => rfl

/-- With a move placed, a step runs that move and keeps the rest placed. -/
theorem step_withAgenda_cons {ev : Event} {s u : State} (hw : s.cfg.wf = true) (h : runEvent ev s = .next u)
    (rest : List Event) : step (withAgenda (ev :: rest) s) = .next (withAgenda rest u) := by
  rw [step_of_agenda_cons (s := withAgenda (ev :: rest) s) hw rfl]
  change runEvent ev (withAgenda rest s) = _
  rw [runEvent_agendaBlind, h, mapNext_next]

/-! ### Moves of agents that have no step (log 3, log 8) -/

/-- A TICK of a stopped counter changes nothing (R108). -/
theorem tickStep_of_stopped {s : State} (h : s.ps = 0#3) : tickStep s = .next s := by
  simp [tickStep, clockSelectIllegal, tickEnabled, h]

/-- A TICK that finds a clock select which is never written stops the model (R15). -/
theorem tickStep_of_illegal {s : State} (h : s.ps = 6#3 ∨ s.ps = 7#3) : tickStep s = .fault .illegalClockSelect := by
  have hi : clockSelectIllegal s = true := by simpa [clockSelectIllegal] using h
  simp [tickStep, hi]

/-! ### The obligations -/

/-- Settles O19: the placed ISSUE is the move taken, and its transaction decodes to the command. -/
theorem stepRunsTheDecodedCommand : Obligations.StepRunsTheDecodedCommand :=
  ⟨fun _ _ _ _ => step_of_agenda_issue, fun s nbits w _ hw hd =>
    step_of_agenda_issue (s := s.withFetchWord nbits w) hw rfl (decodeTableWord_eq_some.1 hd)⟩

/-- Settles O20: the head of the agenda, else a free move, and no step of an ill-formed configuration. -/
theorem stepIsOneAgentStep : Obligations.StepIsOneAgentStep := fun _ =>
  ⟨step_of_ill_formed, fun hw => ⟨fun _ _ => step_of_agenda_cons hw, step_of_agenda_nil hw⟩⟩

/-- Settles O21, by induction on the schedule: each move keeps the configuration and what is placed after it. -/
theorem agendaRunsAsSchedule : Obligations.AgendaRunsAsSchedule := by
  intro evs
  induction evs with
  | nil =>
    intro s t _ h
    cases h
    rfl
  | cons ev evs ih =>
    intro s t hw h
    obtain ⟨u, hu, ht⟩ := runSchedule_cons_eq_some.1 h
    have hwu : u.cfg.wf = true := by rw [runEvent_keeps_cfg hu, hw]
    exact (core_run_succ_of_step (step_withAgenda_cons hw hu evs) evs.length).trans (ih u t hwu ht)

/-- Settles O41: TICK by the value of PS; NOTIFY and the READER by their own enabling conditions. -/
theorem disabledMovesChangeNothing : Obligations.DisabledMovesChangeNothing := by
  intro s
  refine ⟨tickStep_of_stopped, tickStep_of_illegal, fun h => ?_, fun h => ?_⟩
  · simp [runEvent, notifyStep, h]
  · simp [runEvent, readerStep, h]

end Sys2Proof.Scope
end

section
/-! PROOFS. The structural invariant (spec/10_state.md R15, R18, R19, R22, R23, R28): it holds at reset and every move
keeps it. A READER step first weakens the invariant to what holds of a command in progress whatever its phase
(`Underway`, `Reading16`, `ReadingWide`); entering the next phase then gives the whole invariant back. -/

namespace Sys2Proof.Invariants

open Sys2Proof.Machine Sys2Proof.Safety Sys2Proof.Scope
open Host (Outcome)

/-! ### The invariant without the phase -/

/-- The part of the invariant that speaks neither of the phase nor of the command. -/
structure Standing (s : State) : Prop where
  flt_le : s.flt.toNat ≤ 5
  ps_eq : s.ps = if s.initd then psel (pEff s.cfg) else 0#3
  armed_eq : s.armed = (s.initd && s.cfg.enWide)
  a_le : s.a ≤ 4
  b_le : s.b ≤ 4
  before_init : s.initd = false → s.hw = s.cfg.hw0 ∧ s.pend = false ∧ s.gw = 0#16 ∧ s.rv = false ∧
    s.hzLost = false ∧ s.hzTorn16 = false ∧ s.hzTornW = false

/-- A command other than INIT is in progress, in any phase. -/
structure Underway (s : State) : Prop extends Standing s where
  busy : s.busy = true
  initd : s.initd = true
  present : verdict s.cfg s.cmd = .present

/-- A command is in progress that runs READ16, and its READWIDE, if it has one, has attempts left (R69, R79). -/
structure Reading16 (s : State) : Prop extends Underway s where
  reads : phaseOfCommand s.cfg s.cmd .r16H1 = true
  b_lt : readsWide s.cfg s.cmd = true → s.b ≤ 3

/-- A command is in progress that runs READWIDE (R77). -/
structure ReadingWide (s : State) : Prop extends Underway s where
  wide : readsWide s.cfg s.cmd = true

/-- A fact about INITD = 0 says nothing once INIT has completed. -/
theorem before_init_of_initd {s : State} {p : Prop} (h : s.initd = true) (h' : s.initd = false) : p :=
  absurd (h.symm.trans h') Bool.noConfusion

/-- The phase-free part gives the invariant of an idle block. -/
theorem Standing.inv_of_idle {s : State} (h : Standing s) (hbusy : s.busy = false) (hph : s.ph = .idle)
    (hsup : s.sup = false) : BlockInv s :=
  { h with
    busy_iff := by simp [hbusy, hph]
    sup_eq := by rw [hsup, hph]; rfl
    cmd_present := fun hne => absurd hph hne
    cmd_phase := fun hne => absurd hph hne
    initd_phase := fun hne => absurd hph hne
    a_lt := by simp [hph, attempt16Phase]
    b_lt := by simp [hph, read16Phase]
    vt_lt := by simp [hph] }

/-- A command in progress completes into the invariant (R11). -/
theorem Underway.inv_completeWith {s : State} (u : Underway s) (hsup : s.sup = false) (v : Word) :
    BlockInv (completeWith v s) :=
  Standing.inv_of_idle { u with before_init := before_init_of_initd u.initd } rfl rfl hsup

/-- A command in progress enters CONV into the invariant, if it converts and the value has W bits (R96). -/
theorem Underway.inv_enterConv {s : State} (u : Underway s) (hsup : s.sup = false)
    (hcmd : phaseOfCommand s.cfg s.cmd .conv = true) {v : Word} (hv : v.toNat < 2 ^ width s.cfg) :
    BlockInv (enterConv v s) :=
  { u with
    busy_iff := by simp [u.busy]
    sup_eq := hsup
    cmd_present := fun _ => u.present
    cmd_phase := fun _ => hcmd
    initd_phase := by simp [u.initd]
    a_lt := by simp [attempt16Phase]
    b_lt := by simp [read16Phase]
    vt_lt := fun _ => hv }

/-- The phases of READ16 are phases of the same commands (R62). -/
theorem phaseOfCommand_read16 (c : Config) (cmd : Byte) {p : Phase} (hp : read16Phase p = true) :
    phaseOfCommand c cmd p = phaseOfCommand c cmd .r16H1 := by
  cases p with
  | r16H1 | r16L | r16H2 | r16Sup | r16Smp | r16Rst => rfl
  | idle | initX | wO1 | wO2 | wSup | wSnp | wRst | conv => cases hp

/-- The phases of READWIDE are phases of the commands that widen (R62). -/
theorem phaseOfCommand_readWide (c : Config) (cmd : Byte) {p : Phase} (hp : readWidePhase p = true) :
    phaseOfCommand c cmd p = readsWide c cmd := by
  cases p with
  | wO1 | wO2 | wSup | wSnp | wRst => rfl
  | idle | initX | r16H1 | r16L | r16H2 | r16Sup | r16Smp | r16Rst | conv => cases hp

/-- The commands that widen: READW, and NOWMS and NOWUS of a wide block (R62). -/
theorem readsWide_iff (c : Config) (cmd : Byte) :
    readsWide c cmd = true ↔ cmd = 0x03#8 ∨ (c.enWide = true ∧ (cmd = 0x06#8 ∨ cmd = 0x07#8)) := by
  simp [readsWide]

/-- A command that widens runs READ16 in each attempt (R78). -/
theorem phaseOfCommand_r16H1_of_readsWide {c : Config} {cmd : Byte} (h : readsWide c cmd = true) :
    phaseOfCommand c cmd .r16H1 = true := by
  obtain rfl | ⟨-, rfl | rfl⟩ := (readsWide_iff c cmd).1 h <;> rfl

/-- NOWMS and NOWUS end in CONV (R94, R95). -/
theorem phaseOfCommand_conv_of_now {c : Config} {cmd : Byte} (h : cmd = 0x06#8 ∨ cmd = 0x07#8) :
    phaseOfCommand c cmd .conv = true := by
  obtain rfl | rfl := h <;> rfl

/-- READ16 goes on in another of its phases. -/
theorem Reading16.inv_goto {s : State} {p : Phase} (r : Reading16 s) (hp : read16Phase p = true)
    (hsup : s.sup = suppressedPhase p) (ha : attempt16Phase p = true → s.a ≤ 3) : BlockInv (goto p s) :=
  have hidle : p ≠ .idle := by rintro rfl; cases hp
  { r with
    busy_iff := by simp [r.busy, hidle]
    sup_eq := hsup
    cmd_present := fun _ => r.present
    cmd_phase := fun _ => (phaseOfCommand_read16 _ _ hp).trans r.reads
    initd_phase := fun _ => iff_of_true r.initd (by rintro rfl; cases hp)
    a_lt := ha
    b_lt := fun hw _ => r.b_lt hw
    vt_lt := by rintro rfl; cases hp }

/-- READWIDE goes on in another of its phases. -/
theorem ReadingWide.inv_goto {s : State} {p : Phase} (r : ReadingWide s) (hp : readWidePhase p = true)
    (hsup : s.sup = suppressedPhase p) (hb : p = .wO1 ∨ p = .wO2 → s.b ≤ 3) : BlockInv (goto p s) :=
  have hidle : p ≠ .idle := by rintro rfl; cases hp
  have hread16 : read16Phase p ≠ true := by cases p <;> simp [read16Phase, readWidePhase] at hp ⊢
  { r with
    busy_iff := by simp [r.busy, hidle]
    sup_eq := hsup
    cmd_present := fun _ => r.present
    cmd_phase := fun _ => (phaseOfCommand_readWide _ _ hp).trans r.wide
    initd_phase := fun _ => iff_of_true r.initd (by rintro rfl; cases hp)
    a_lt := by intro (h : attempt16Phase p = true); cases p <;> simp [attempt16Phase, readWidePhase] at hp h
    b_lt := fun _ h => hb (by simpa [hread16] using h)
    vt_lt := by rintro rfl; cases hp }

/-! ### The continuations keep the invariant -/

/-- A READ16 returns into the invariant outside the suppressed region (R76). -/
theorem Reading16.inv_ret16 {s t : State} (r : Reading16 s) (hsup : s.sup = false) {v : Half}
    (h : ret16 v s = .next t) : BlockInv t := by
  obtain ⟨-, h⟩ | ⟨hwide, hcmd, h⟩ | ⟨hnarrow, hcmd, h⟩ | ⟨-, h⟩ := ret16_cases h <;> cases h
  · exact r.inv_completeWith hsup _
  · have hw : readsWide s.cfg s.cmd = true := by simpa [readsWide_iff, hwide] using hcmd
    exact ReadingWide.inv_goto { r with wide := hw } rfl hsup fun _ => r.b_lt hw
  · refine r.inv_enterConv hsup (phaseOfCommand_conv_of_now hcmd) ?_
    rw [zext_toNat, width, hnarrow]
    exact v.isLt

/-- A READWIDE returns into the invariant outside the suppressed region (R83). -/
theorem ReadingWide.inv_retW {s t : State} (r : ReadingWide s) (hsup : s.sup = false) {v : Word}
    (h : retW v s = .next t) : BlockInv t := by
  obtain ⟨-, h⟩ | ⟨hcmd, h⟩ | ⟨-, h⟩ := retW_cases h <;> cases h
  · exact r.inv_completeWith hsup _
  · have hwide : s.cfg.enWide = true := by
      have h3 : s.cmd ≠ 0x03#8 := by obtain hc | hc := hcmd <;> rw [hc] <;> decide
      exact (((readsWide_iff _ _).1 r.wide).resolve_left h3).1
    refine r.inv_enterConv hsup (phaseOfCommand_conv_of_now hcmd) ?_
    rw [width, hwide]
    exact v.isLt

/-! ### The READER keeps the invariant -/

/-- Past INIT_X the invariant gives what holds of a command in progress. -/
theorem underway_of_inv {s : State} (h : BlockInv s) (hidle : s.ph ≠ .idle) (hinit : s.ph ≠ .initX) : Underway s :=
  { h with
    busy := h.busy_iff.2 hidle
    initd := (h.initd_phase hidle).2 hinit
    present := h.cmd_present hidle }

theorem reading16_of_inv {s : State} (h : BlockInv s) (hp : read16Phase s.ph = true) : Reading16 s :=
  have hidle : s.ph ≠ .idle := by intro hs; rw [hs] at hp; cases hp
  { underway_of_inv h hidle (by intro hs; rw [hs] at hp; cases hp) with
    reads := (phaseOfCommand_read16 _ _ hp).symm.trans (h.cmd_phase hidle)
    b_lt := fun hw => h.b_lt hw (.inr (.inl hp)) }

theorem readingWide_of_inv {s : State} (h : BlockInv s) (hp : readWidePhase s.ph = true) : ReadingWide s :=
  have hidle : s.ph ≠ .idle := by intro hs; rw [hs] at hp; cases hp
  { underway_of_inv h hidle (by intro hs; rw [hs] at hp; cases hp) with
    wide := (phaseOfCommand_readWide _ _ hp).symm.trans (h.cmd_phase hidle) }

/-- INIT_X leaves the block idle, started and, when EN_WIDE, armed (R66). -/
theorem phaseInitX_keeps_inv {s t : State} (h : BlockInv s) (hp : s.ph = .initX) (hs : phaseInitX s = .next t) :
    BlockInv t := by
  cases hs
  have hinitd : s.initd = false := by simpa [hp] using h.initd_phase
  have hsup : s.sup = false := by rw [h.sup_eq, hp]; rfl
  have harmed : s.armed = false := by rw [h.armed_eq, hinitd]; rfl
  unfold armOverflow
  cases hw : s.cfg.enWide with
  | true => exact Standing.inv_of_idle { h with
      ps_eq := rfl, armed_eq := hw.symm, before_init := nofun } rfl rfl hsup
  | false => exact Standing.inv_of_idle { h with
      ps_eq := rfl, armed_eq := harmed.trans hw.symm, before_init := nofun } rfl rfl hsup

/-- R16_H2 counts the attempt, then accepts, retries or falls back (R72). -/
theorem phaseR16H2_keeps_inv {s t : State} (h : BlockInv s) (hp : s.ph = .r16H2) (hs : phaseR16H2 s = .next t) :
    BlockInv t := by
  have hsup : s.sup = false := by rw [h.sup_eq, hp]; rfl
  have ha : s.a ≤ 3 := h.a_lt (by rw [hp]; rfl)
  have r : Reading16 (recheck16 s) :=
    have r := reading16_of_inv h (by rw [hp]; rfl)
    { r with a_le := Nat.succ_le_succ ha }
  obtain ⟨-, hs⟩ | ⟨-, hlt, hs⟩ | ⟨-, -, hs⟩ := phaseR16H2_cases hs
  · have raccept : Reading16 (accept16 (joinBytes s.h1 s.lo) (recheck16 s)) :=
      { r with before_init := before_init_of_initd r.initd }
    exact raccept.inv_ret16 hsup hs.symm
  · cases hs
    exact r.inv_goto rfl hsup fun _ => Nat.le_of_lt_succ hlt
  · cases hs
    exact r.inv_goto rfl hsup nofun

/-- W_O2 counts the attempt, then accepts, retries or falls back (R79). -/
theorem phaseWO2_keeps_inv {s t : State} (h : BlockInv s) (hp : s.ph = .wO2) (hs : phaseWO2 s = .next t) :
    BlockInv t := by
  have hsup : s.sup = false := by rw [h.sup_eq, hp]; rfl
  have r₀ := readingWide_of_inv h (by rw [hp]; rfl)
  have hb : s.b ≤ 3 := h.b_lt r₀.wide (.inr (.inr hp))
  have r : ReadingWide (recheckW s) := { r₀ with b_le := Nat.succ_le_succ hb }
  obtain ⟨-, hs⟩ | ⟨-, hlt, hs⟩ | ⟨-, -, hs⟩ := phaseWO2_cases hs
  · have raccept : ReadingWide (acceptW (extended s.o1 s.v16) (recheckW s)) :=
      { r with before_init := before_init_of_initd r.initd }
    exact raccept.inv_retW hsup hs.symm
  · cases hs
    exact r.inv_goto rfl hsup fun _ => Nat.le_of_lt_succ hlt
  · cases hs
    exact r.inv_goto rfl hsup (by simp)

theorem microStep_keeps_inv {s t : State} (h : BlockInv s) (hs : microStep s = .next t) : BlockInv t := by
  have hsup := h.sup_eq
  have h16 := reading16_of_inv h
  have hwide := readingWide_of_inv h
  unfold microStep at hs
  cases hp : s.ph with rw [hp] at hs hsup h16 hwide
  | idle => cases hs; exact h
  | initX => exact phaseInitX_keeps_inv h hp hs
  | r16H1 =>
    cases hs
    exact Reading16.inv_goto { h16 rfl with } rfl hsup fun _ => h.a_lt (by rw [hp]; rfl)
  | r16L =>
    cases hs
    exact Reading16.inv_goto { h16 rfl with } rfl hsup fun _ => h.a_lt (by rw [hp]; rfl)
  | r16H2 => exact phaseR16H2_keeps_inv h hp hs
  | r16Sup =>
    cases hs
    exact Reading16.inv_goto { h16 rfl with } rfl rfl nofun
  | r16Smp =>
    cases hs
    exact Reading16.inv_goto { h16 rfl with } rfl hsup nofun
  | r16Rst => exact Reading16.inv_ret16 (s := { s with sup := false }) { h16 rfl with } rfl hs
  | wO1 =>
    cases hs
    have hw := (hwide rfl).wide
    have r : Reading16 { s with o1 := sampleOvf s, a := 0 } :=
      { hwide rfl with
        a_le := Nat.zero_le 4
        reads := phaseOfCommand_r16H1_of_readsWide hw
        b_lt := fun _ => h.b_lt hw (.inl hp) }
    exact r.inv_goto rfl hsup fun _ => Nat.zero_le 3
  | wO2 => exact phaseWO2_keeps_inv h hp hs
  | wSup =>
    cases hs
    exact ReadingWide.inv_goto { hwide rfl with } rfl rfl (by simp)
  | wSnp =>
    cases hs
    have r := hwide rfl
    exact ReadingWide.inv_goto { r with before_init := before_init_of_initd r.initd } rfl hsup (by simp)
  | wRst => exact ReadingWide.inv_retW (s := { s with sup := false }) { hwide rfl with } rfl hs
  | conv =>
    cases hs
    exact (underway_of_inv h (by simp [hp]) (by simp [hp])).inv_completeWith hsup _

/-! ### ISSUE keeps the invariant -/

/-- Raising a fault touches FLT alone, and its code is at most 5 (R23, R103). -/
theorem raise_keeps_inv {s : State} (h : BlockInv s) (f : FaultCode) : BlockInv (raise f s) :=
  { h with flt_le := by rw [raise_flt]; cases f <;> decide }

/-- A reserved code is present in no configuration (R55). -/
theorem verdict_of_reserved {tx : Transaction} {e : DecodeError} (h : decode tx = .error e) (c : Config) :
    verdict c tx.code = .reserved := by
  unfold decode at h
  unfold verdict
  split at h <;> simp_all

/-- What ISSUE of a transaction can answer: the same state, a raised fault, or the command it decodes to, accepted and
in its first phase (R61, R62). -/
theorem issueTransaction_cases {tx : Transaction} {s t : State} (h : issueTransaction tx s = .next t) :
    t = s ∨ (∃ f, faultFree s = true ∧ t = raise f s) ∨
    ∃ i, issueFault (encode i).code s = none ∧ t = firstOf s i (accept (encode i).code i.operand s) := by
  cases hd : decode tx with
  | ok i =>
    rw [issueTransaction_of_decode hd, exec_eq_issue] at h
    obtain ⟨-, h⟩ | ⟨f, hfree, -, h⟩ | ⟨-, hi, h⟩ := issue_cases h <;> cases h
    · exact .inl rfl
    · exact .inr (.inl ⟨f, hfree, rfl⟩)
    · exact .inr (.inr ⟨i, hi, rfl⟩)
  | error e =>
    rw [issueTransaction_of_reserved hd] at h
    obtain ⟨-, h⟩ | ⟨f, hfree, -, h⟩ | ⟨-, hi, -⟩ := issue_cases h
    · cases h; exact .inl rfl
    · cases h; exact .inr (.inl ⟨f, hfree, rfl⟩)
    · have hpresent := ((issueFault_eq_none_iff _ _).1 hi).2.1
      rw [verdict_of_reserved hd] at hpresent
      cases hpresent

/-- The operand of T2MS and T2US has W bits (R53). -/
theorem tickOperand_lt (c : Config) (w : Word) : (tickOperand c w).toNat < 2 ^ width c :=
  (Nat.mod_le _ _).trans_lt (Nat.mod_lt _ (Nat.two_pow_pos _))

/-- READ16 starts with its attempts counted from 0 (R62). -/
theorem Underway.inv_enter16 {s : State} (u : Underway s) (hsup : s.sup = false)
    (hreads : phaseOfCommand s.cfg s.cmd .r16H1 = true) (hb : readsWide s.cfg s.cmd = true → s.b ≤ 3) :
    BlockInv (enter16 s) :=
  have r : Reading16 { s with a := 0 } := { u with a_le := Nat.zero_le 4, reads := hreads, b_lt := hb }
  r.inv_goto rfl hsup fun _ => Nat.zero_le 3

/-- READWIDE starts with its attempts counted from 0 (R62). -/
theorem Underway.inv_enterW {s : State} (u : Underway s) (hsup : s.sup = false)
    (hwide : readsWide s.cfg s.cmd = true) : BlockInv (enterW s) :=
  have r : ReadingWide { s with b := 0 } := { u with b_le := Nat.zero_le 4, wide := hwide }
  r.inv_goto rfl hsup fun _ => Nat.zero_le 3

/-- NOWMS and NOWUS start the read that EN_WIDE chooses (R62). -/
theorem Underway.inv_enterNow {s : State} (u : Underway s) (hsup : s.sup = false)
    (hcmd : s.cmd = 0x06#8 ∨ s.cmd = 0x07#8) : BlockInv (enterNow s) := by
  unfold enterNow
  split
  next hwide => exact u.inv_enterW hsup ((readsWide_iff _ _).2 (.inr ⟨hwide, hcmd⟩))
  next hnarrow =>
    refine u.inv_enter16 hsup ?_ fun hw => ?_
    · obtain hc | hc := hcmd <;> rw [hc] <;> rfl
    · obtain hc | hc := hcmd <;> simp [readsWide_iff, hnarrow, hc] at hw

/-- Accepting a command sets up its first phase within the invariant (R61, R62). -/
theorem firstOf_accept_keeps_inv {s : State} {i : Instr} (h : BlockInv s) (hi : issueFault (encode i).code s = none) :
    BlockInv (firstOf s i (accept (encode i).code i.operand s)) := by
  obtain ⟨hbusy, hpresent, hinitd⟩ := (issueFault_eq_none_iff _ _).1 hi
  have hidle : s.ph = .idle := by simpa [hbusy] using h.busy_iff
  have hsup : s.sup = false := by rw [h.sup_eq, hidle]; rfl
  have hunder (hcode : (encode i).code ≠ 0x01#8) : Underway (accept (encode i).code i.operand s) :=
    { h with busy := rfl, initd := hinitd.2 hcode, present := hpresent }
  cases i with
  | init w => exact { h with
      busy_iff := by simp [firstOf]
      sup_eq := hsup
      cmd_present := fun _ => hpresent
      cmd_phase := fun _ => rfl
      initd_phase := fun _ => by simpa [firstOf, encode] using hinitd
      a_lt := nofun
      b_lt := by simp [firstOf, read16Phase]
      vt_lt := nofun }
  | read16 w => exact (hunder (by simp [encode])).inv_enter16 hsup rfl (by simp [readsWide, encode])
  | readw w => exact (hunder (by simp [encode])).inv_enterW hsup rfl
  | t2ms w => exact (hunder (by simp [encode])).inv_enterConv hsup rfl (tickOperand_lt _ _)
  | t2us w => exact (hunder (by simp [encode])).inv_enterConv hsup rfl (tickOperand_lt _ _)
  | nowms w => exact (hunder (by simp [encode])).inv_enterNow hsup (.inl rfl)
  | nowus w => exact (hunder (by simp [encode])).inv_enterNow hsup (.inr rfl)

/-! ### Every move keeps the invariant -/

/-- A TICK writes the counter, which the invariant binds only before INIT, where there is no TICK (R108). -/
theorem tickStep_keeps_inv {s t : State} (h : BlockInv s) (hs : tickStep s = .next t) : BlockInv t := by
  have hinitd (ht : tickEnabled s = true) : s.initd = true := by
    cases hi : s.initd
    · simp [tickEnabled, h.ps_eq, hi] at ht
    · rfl
  obtain ⟨-, hs⟩ | ⟨-, hs⟩ | ⟨ht, -, hs⟩ | ⟨ht, -, hs⟩ := tickStep_cases hs <;> cases hs
  · exact h
  · exact { h with before_init := before_init_of_initd (hinitd ht) }
  · exact { h with before_init := before_init_of_initd (hinitd ht) }

/-- NOTIFY writes OVF and PEND, which the invariant binds only while PEND = 0 (R110). -/
theorem notifyStep_keeps_inv {s t : State} (h : BlockInv s) (hs : notifyStep s = .next t) : BlockInv t := by
  obtain ⟨-, hs⟩ | ⟨hn, hs⟩ := notifyStep_cases hs <;> cases hs
  · exact h
  · refine { h with before_init := fun hi => ?_ }
    obtain ⟨hhw, -, hrest⟩ := h.before_init hi
    exact ⟨hhw, rfl, hrest⟩

/-- Every move of every agent keeps the structural invariant. -/
theorem runEvent_keeps_inv {ev : Event} {s t : State} (h : BlockInv s) (hs : runEvent ev s = .next t) :
    BlockInv t := by
  cases ev with
  | tick => exact tickStep_keeps_inv h hs
  | notify => exact notifyStep_keeps_inv h hs
  | reader =>
    obtain ⟨-, hs⟩ | ⟨-, hs⟩ := readerStep_cases hs
    · cases hs; exact h
    · exact microStep_keeps_inv h hs.symm
  | issue tx =>
    obtain rfl | ⟨f, -, rfl⟩ | ⟨i, hi, rfl⟩ := issueTransaction_cases hs
    · exact h
    · exact raise_keeps_inv h f
    · exact firstOf_accept_keeps_inv h hi
  | rdres =>
    obtain ⟨-, hs⟩ | ⟨-, -, hs⟩ | ⟨-, -, -, hs⟩ | ⟨-, -, -, hs⟩ := hostRdres_cases hs <;> cases hs
    · exact h
    · exact raise_keeps_inv h _
    · exact raise_keeps_inv h _
    · exact { h with }
  | rdstat => cases hs; exact { h with }

/-- A step that answers a state is a move run where only the model's own schedule fields differ (R4). -/
theorem exists_runEvent_of_step {s t : State} (h : step s = .next t) :
    ∃ ev agenda drawn, runEvent ev { s with agenda := agenda, drawn := drawn } = .next t := by
  obtain ⟨-, h⟩ | ⟨ev, rest, -, -, h⟩ | ⟨-, -, h⟩ := step_cases h
  · cases h
  · exact ⟨ev, rest, s.drawn, h.symm⟩
  · exact ⟨_, s.agenda, s.drawn + 1, h.symm⟩

/-! ### The obligations -/

/-- Settles O44: the values of the reset state, by its definition. -/
theorem resetValues : Obligations.ResetValues := by
  refine ⟨?_, rfl⟩
  rintro c s rfl
  simp [State.resetWith]

/-- Settles O45: the reset state is idle, stopped and unarmed. -/
theorem invariantAtReset : Obligations.InvariantAtReset := fun _ =>
  Standing.inv_of_idle
    { flt_le := Nat.zero_le 5
      ps_eq := rfl
      armed_eq := rfl
      a_le := Nat.zero_le 4
      b_le := Nat.zero_le 4
      before_init := fun _ => ⟨rfl, rfl, rfl, rfl, rfl, rfl, rfl⟩ } rfl rfl rfl

/-- Settles O46: every move keeps the invariant, and taking the move off the schedule touches no element of it. -/
theorem everyStepKeepsTheInvariant : Obligations.EveryStepKeepsTheInvariant := by
  intro s t h hs
  obtain ⟨ev, agenda, drawn, hs⟩ := exists_runEvent_of_step hs
  exact runEvent_keeps_inv (s := { s with agenda := agenda, drawn := drawn }) { h with } hs

end Sys2Proof.Invariants
end

section
/-! PROOFS. Who writes FLT (spec/10_state.md R23) and the counter with its ghost wrap count (R14, R33): the READER and
the first phase of a command write neither, but for INIT_X, which restarts the wrap count (spec/40_control.md R66). -/

namespace Sys2Proof.Frames

open Sys2Proof.Machine Sys2Proof.Safety Sys2Proof.Scope Sys2Proof.Invariants
open Host (Outcome)

/-! ### What the READER and the first phases leave unchanged -/

/-- The state without the elements that the READER writes outside INIT_X: two states that agree here hold the same
configuration, HW, PS, OVF, PEND, ARMED, INITD, FLT, CMD, ARG, GW and HZ_LOST. -/
def outsideReader (s : State) : State :=
  { s with
    sup := false, busy := false, rv := false, res := 0, ph := .idle, a := 0, b := 0, h1 := 0, lo := 0, h2 := 0
    v16 := 0, o1 := 0, o2 := 0, vt := 0, gt16 := 0, gtw := 0, hzTorn16 := false, hzTornW := false }

theorem firstOf_outsideReader (s : State) (i : Instr) (t : State) :
    outsideReader (firstOf s i t) = outsideReader t := by
  cases i with
  | nowms | nowus =>
    change outsideReader (enterNow t) = _
    unfold enterNow
    split <;> rfl
  | init | read16 | readw | t2ms | t2us => rfl

theorem ret16_outsideReader {v : Half} {s t : State} (h : ret16 v s = .next t) :
    outsideReader t = outsideReader s := by
  obtain ⟨-, h⟩ | ⟨-, -, h⟩ | ⟨-, -, h⟩ | ⟨-, h⟩ := ret16_cases h <;> cases h <;> rfl

theorem retW_outsideReader {v : Word} {s t : State} (h : retW v s = .next t) :
    outsideReader t = outsideReader s := by
  obtain ⟨-, h⟩ | ⟨-, h⟩ | ⟨-, h⟩ := retW_cases h <;> cases h <;> rfl

theorem phaseR16H2_outsideReader {s t : State} (h : phaseR16H2 s = .next t) :
    outsideReader t = outsideReader s := by
  obtain ⟨-, h⟩ | ⟨-, -, h⟩ | ⟨-, -, h⟩ := phaseR16H2_cases h
  · exact (ret16_outsideReader h.symm).trans rfl
  · cases h; rfl
  · cases h; rfl

theorem phaseWO2_outsideReader {s t : State} (h : phaseWO2 s = .next t) : outsideReader t = outsideReader s := by
  obtain ⟨-, h⟩ | ⟨-, -, h⟩ | ⟨-, -, h⟩ := phaseWO2_cases h
  · exact (retW_outsideReader h.symm).trans rfl
  · cases h; rfl
  · cases h; rfl

/-- The frame of every micro-step but INIT_X (R70 to R83, R96). -/
theorem microStep_outsideReader {s t : State} (hinit : s.ph ≠ .initX) (h : microStep s = .next t) :
    outsideReader t = outsideReader s := by
  unfold microStep at h
  cases hp : s.ph with rw [hp] at h
  | initX => exact absurd hp hinit
  | r16H2 => exact phaseR16H2_outsideReader h
  | r16Rst => exact (ret16_outsideReader h).trans rfl
  | wO2 => exact phaseWO2_outsideReader h
  | wRst => exact (retW_outsideReader h).trans rfl
  | idle | r16H1 | r16L | r16Sup | r16Smp | wO1 | wSup | wSnp | conv => cases h; rfl

theorem flt_of_outsideReader {s t : State} (h : outsideReader t = outsideReader s) : t.flt = s.flt :=
  (congrArg State.flt h :)

theorem trueTick_of_outsideReader {s t : State} (h : outsideReader t = outsideReader s) :
    t.initd = s.initd ∧ trueTick t = trueTick s :=
  ⟨(congrArg State.initd h :), (congrArg trueTick h :)⟩

/-! ### FLT (R23) -/

/-- No micro-step raises or clears a fault. -/
theorem microStep_flt {s t : State} (h : microStep s = .next t) : t.flt = s.flt := by
  by_cases hp : s.ph = .initX
  · rw [microStep, hp] at h
    cases h
    change (armOverflow s).flt = s.flt
    unfold armOverflow
    split <;> rfl
  · exact flt_of_outsideReader (microStep_outsideReader hp h)

theorem faultFree_iff (s : State) : faultFree s = true ↔ s.flt = 0#3 := by simp [faultFree]

/-- FLT changes by a fault raised where FLT = 0, and in no other way (R102, R103). -/
theorem runEvent_flt {ev : Event} {s t : State} (h : runEvent ev s = .next t) :
    t.flt = s.flt ∨ (s.flt = 0#3 ∧ ∃ f, t.flt = faultBits f) := by
  cases ev with
  | tick => obtain ⟨-, h⟩ | ⟨-, h⟩ | ⟨-, -, h⟩ | ⟨-, -, h⟩ := tickStep_cases h <;> cases h <;> exact .inl rfl
  | notify => obtain ⟨-, h⟩ | ⟨-, h⟩ := notifyStep_cases h <;> cases h <;> exact .inl rfl
  | reader =>
    obtain ⟨-, h⟩ | ⟨-, h⟩ := readerStep_cases h
    · cases h; exact .inl rfl
    · exact .inl (microStep_flt h.symm)
  | issue tx =>
    obtain rfl | ⟨f, hfree, rfl⟩ | ⟨i, -, rfl⟩ := issueTransaction_cases h
    · exact .inl rfl
    · exact .inr ⟨(faultFree_iff s).1 hfree, f, rfl⟩
    · exact .inl ((flt_of_outsideReader (firstOf_outsideReader s i _)).trans rfl)
  | rdres =>
    obtain ⟨-, h⟩ | ⟨hfree, -, h⟩ | ⟨hfree, -, -, h⟩ | ⟨-, -, -, h⟩ := hostRdres_cases h <;> cases h
    · exact .inl rfl
    · exact .inr ⟨(faultFree_iff s).1 hfree, .busy, rfl⟩
    · exact .inr ⟨(faultFree_iff s).1 hfree, .resUnwritten, rfl⟩
    · exact .inl rfl
  | rdstat => cases h; exact .inl rfl

/-- The codes of R102 are 1 to 5. -/
theorem faultBits_range (f : FaultCode) : 1 ≤ (faultBits f).toNat ∧ (faultBits f).toNat ≤ 5 := by
  cases f <;> decide

/-- Settles O8: a step is a move, and a move changes FLT only by raising a fault where FLT = 0. -/
theorem firstFaultSticks : Obligations.FirstFaultSticks := by
  refine ⟨fun _ => rfl, fun s t hs => ?_⟩
  obtain ⟨ev, agenda, drawn, hs⟩ := exists_runEvent_of_step hs
  obtain heq | ⟨hzero, f, hf⟩ := runEvent_flt hs
  · exact ⟨fun _ => heq, fun hne => absurd heq hne⟩
  · refine ⟨fun hne => absurd hzero hne, fun _ => ⟨hzero, ?_⟩⟩
    rw [hf]
    exact faultBits_range f

/-! ### The true extended value (R33) -/

/-- A wrap of HW that GW counts is one tick (R108). -/
theorem extended_wrap (g : Half) : extended (g + 1#16) 0#16 = extended g 0xFFFF#16 + 1#32 := by
  apply BitVec.eq_of_toNat_eq
  simp only [extended_toNat, BitVec.toNat_add, BitVec.toNat_ofNat]
  omega

/-- Below its maximum HW takes one tick by itself (R108). -/
theorem extended_advance (g : Half) {h : Half} (hmax : h ≠ 0xFFFF#16) :
    extended g (h + 1#16) = extended g h + 1#32 := by
  have hne : h.toNat ≠ 65535 := fun e => hmax (BitVec.eq_of_toNat_eq e)
  apply BitVec.eq_of_toNat_eq
  simp only [extended_toNat, BitVec.toNat_add, BitVec.toNat_ofNat]
  omega

/-- A TICK advances the true value by 1: within HW, or by a wrap that GW counts (R108). -/
theorem tickStep_trueTick {s t : State} (h : tickStep s = .next t) :
    t.initd = s.initd ∧ trueTick t = trueTick s + BitVec.ofNat 32 (if takesTick .tick s then 1 else 0) := by
  have htakes : takesTick .tick s = tickEnabled s := rfl
  obtain ⟨-, h⟩ | ⟨ht, h⟩ | ⟨ht, hmax, h⟩ | ⟨ht, hmax, h⟩ := tickStep_cases h <;> cases h <;>
    rw [htakes, ht]
  · exact ⟨rfl, (BitVec.add_zero _).symm⟩
  · rw [trueTick, trueTick, hmax]
    exact ⟨rfl, extended_wrap s.gw⟩
  · exact ⟨rfl, extended_advance s.gw hmax⟩

/-- No move touches the true value but a TICK and, before INIT has completed, INIT_X. -/
theorem runEvent_keeps_trueTick {ev : Event} {s t : State} (hev : ev ≠ .tick) (hinit : s.ph ≠ .initX)
    (h : runEvent ev s = .next t) : t.initd = s.initd ∧ trueTick t = trueTick s := by
  cases ev with
  | tick => exact absurd rfl hev
  | notify => obtain ⟨-, h⟩ | ⟨-, h⟩ := notifyStep_cases h <;> cases h <;> exact ⟨rfl, rfl⟩
  | reader =>
    obtain ⟨-, h⟩ | ⟨-, h⟩ := readerStep_cases h
    · cases h; exact ⟨rfl, rfl⟩
    · exact trueTick_of_outsideReader (microStep_outsideReader hinit h.symm)
  | issue tx =>
    obtain rfl | ⟨f, -, rfl⟩ | ⟨i, -, rfl⟩ := issueTransaction_cases h
    · exact ⟨rfl, rfl⟩
    · exact ⟨rfl, rfl⟩
    · obtain ⟨hinitd, htrue⟩ := trueTick_of_outsideReader (firstOf_outsideReader s i (accept _ i.operand s))
      exact ⟨hinitd, htrue⟩
  | rdres =>
    obtain ⟨-, h⟩ | ⟨-, -, h⟩ | ⟨-, -, -, h⟩ | ⟨-, -, -, h⟩ := hostRdres_cases h <;> cases h <;> exact ⟨rfl, rfl⟩
  | rdstat => cases h; exact ⟨rfl, rfl⟩

/-- Outside INIT_X a move advances the true value by the TICK step it takes. -/
theorem runEvent_trueTick {ev : Event} {s t : State} (hinit : s.ph ≠ .initX) (h : runEvent ev s = .next t) :
    t.initd = s.initd ∧ trueTick t = trueTick s + BitVec.ofNat 32 (if takesTick ev s then 1 else 0) := by
  by_cases hev : ev = .tick
  · subst hev
    exact tickStep_trueTick h
  · simpa [takesTick, hev] using runEvent_keeps_trueTick hev hinit h

/-- A count along a schedule is the count of its first move and the count along the rest. -/
theorem countAlong_cons_of_next {ev : Event} {s u : State} (h : runEvent ev s = .next u)
    (counts : Event → State → Bool) (evs : List Event) :
    countAlong counts (ev :: evs) s = (if counts ev s then 1 else 0) + countAlong counts evs u := by
  rw [countAlong, h]

/-- INIT_X does not run once INIT has completed (R61, R66). -/
theorem ph_ne_initX {s : State} (h : BlockInv s) (hinitd : s.initd = true) : s.ph ≠ .initX := fun hp =>
  (h.initd_phase (by simp [hp])).1 hinitd hp

/-- Settles O52, by induction on the schedule: the invariant keeps INIT_X out, and each move adds its own TICK. -/
theorem trueTickCountsEveryTick : Obligations.TrueTickCountsEveryTick := by
  intro s u evs h hinitd hrun
  induction evs generalizing s with
  | nil =>
    cases hrun
    exact (BitVec.add_zero _).symm
  | cons ev evs ih =>
    obtain ⟨v, hv, hrun⟩ := runSchedule_cons_eq_some.1 hrun
    obtain ⟨hkeep, htick⟩ := runEvent_trueTick (ph_ne_initX h hinitd) hv
    have hrest := ih v (runEvent_keeps_inv h hv) (hkeep.trans hinitd) hrun
    rw [hrest, htick, ticksTaken, ticksTaken, countAlong_cons_of_next hv, BitVec.ofNat_add, BitVec.add_assoc]

end Sys2Proof.Frames
end

section
/-! PROOFS. The ghosts (spec/10_state.md R33 to R35) are read by no rule: every move of a state without its ghosts
answers, but for the ghosts, what it answers in the state. -/

namespace Sys2Proof.Ghosts

open Sys2Proof.Machine Sys2Proof.Safety Sys2Proof.Scope
open Host (Outcome)

/-- What the operation answers, but for the ghosts, does not depend on the ghosts. -/
def GhostBlind (op : State → Outcome State Fault Refusal) : Prop :=
  ∀ s, mapNext eraseGhosts (op (eraseGhosts s)) = mapNext eraseGhosts (op s)

/-- States that agree but for the ghosts are answered alike, but for the ghosts. -/
theorem GhostBlind.congr {op : State → Outcome State Fault Refusal} (h : GhostBlind op) {s t : State}
    (hst : eraseGhosts s = eraseGhosts t) : mapNext eraseGhosts (op s) = mapNext eraseGhosts (op t) := by
  rw [← h s, hst, h t]

/-! ### ISSUE -/

theorem firstOf_ghostBlind (s : State) (i : Instr) (t : State) :
    eraseGhosts (firstOf (eraseGhosts s) i (eraseGhosts t)) = eraseGhosts (firstOf s i t) := by
  cases i with
  | nowms | nowus =>
    change eraseGhosts (enterNow (eraseGhosts t)) = eraseGhosts (enterNow t)
    simp only [enterNow, apply_ite eraseGhosts]
    rfl
  | init | read16 | readw | t2ms | t2us => rfl

/-- ISSUE is blind to the ghosts if its first phase is. -/
theorem issue_ghostBlind {first first' : State → State}
    (hfirst : ∀ t, eraseGhosts (first' (eraseGhosts t)) = eraseGhosts (first t)) (code : Byte) (arg : Word)
    (s : State) :
    mapNext eraseGhosts (issue code arg first' (eraseGhosts s)) = mapNext eraseGhosts (issue code arg first s) := by
  have hfree : faultFree (eraseGhosts s) = faultFree s := rfl
  have hfault : issueFault code (eraseGhosts s) = issueFault code s := rfl
  unfold issue
  rw [hfree, hfault]
  cases faultFree s with
  | false => rfl
  | true =>
    cases issueFault code s with
    | some f => rfl
    | none => exact congrArg Outcome.next (hfirst (accept code arg s))

theorem issueTransaction_ghostBlind (tx : Transaction) : GhostBlind (issueTransaction tx) := by
  intro s
  cases hd : decode tx with
  | ok i =>
    simp only [issueTransaction_of_decode hd, exec_eq_issue]
    exact issue_ghostBlind (firstOf_ghostBlind s i) _ _ s
  | error e =>
    simp only [issueTransaction_of_reserved hd]
    exact issue_ghostBlind (first := fun t => t) (first' := fun t => t) (fun _ => rfl) _ _ s

/-! ### The READER -/

theorem ret16_ghostBlind (v : Half) : GhostBlind (ret16 v) := by
  intro s
  simp only [ret16, apply_ite (mapNext eraseGhosts)]
  rfl

theorem retW_ghostBlind (v : Word) : GhostBlind (retW v) := by
  intro s
  simp only [retW, apply_ite (mapNext eraseGhosts)]
  rfl

theorem phaseInitX_ghostBlind : GhostBlind phaseInitX := by
  intro s
  have harm : armOverflow (eraseGhosts s) = eraseGhosts (armOverflow s) := by
    simp only [armOverflow, apply_ite eraseGhosts]
    rfl
  rw [phaseInitX, harm]
  rfl

theorem phaseR16H2_ghostBlind : GhostBlind phaseR16H2 := by
  intro s
  simp only [phaseR16H2, apply_ite (mapNext eraseGhosts)]
  exact if_congr Iff.rfl ((ret16_ghostBlind (joinBytes s.h1 s.lo)).congr rfl) rfl

theorem phaseWO2_ghostBlind : GhostBlind phaseWO2 := by
  intro s
  simp only [phaseWO2, apply_ite (mapNext eraseGhosts)]
  exact if_congr Iff.rfl ((retW_ghostBlind (extended s.o1 s.v16)).congr rfl) rfl

theorem microStep_ghostBlind : GhostBlind microStep := by
  intro s
  have hph : (eraseGhosts s).ph = s.ph := rfl
  unfold microStep
  rw [hph]
  cases s.ph with
  | initX => exact phaseInitX_ghostBlind s
  | r16H2 => exact phaseR16H2_ghostBlind s
  | r16Rst => exact ret16_ghostBlind s.v16 { s with sup := false }
  | wO2 => exact phaseWO2_ghostBlind s
  | wRst => exact retW_ghostBlind s.vt { s with sup := false }
  | idle | r16H1 | r16L | r16Sup | r16Smp | wO1 | wSup | wSnp | conv => rfl

theorem readerStep_ghostBlind : GhostBlind readerStep := by
  intro s
  simp only [readerStep, apply_ite (mapNext eraseGhosts), microStep_ghostBlind s]
  rfl

/-! ### TICK, NOTIFY and the HOST's reads -/

theorem tickStep_ghostBlind : GhostBlind tickStep := by
  intro s
  simp only [tickStep, countTick, apply_ite (mapNext eraseGhosts), mapNext_next, apply_ite eraseGhosts]
  rfl

theorem notifyStep_ghostBlind : GhostBlind notifyStep := by
  intro s
  simp only [notifyStep, apply_ite (mapNext eraseGhosts)]
  rfl

theorem hostRdres_ghostBlind : GhostBlind hostRdres := by
  intro s
  simp only [hostRdres, readResult, mapNext_next, apply_ite eraseGhosts]
  rfl

/-- No move of any agent reads a ghost for anything but a ghost. -/
theorem runEvent_ghostBlind (ev : Event) : GhostBlind (runEvent ev) := by
  cases ev with
  | tick => exact tickStep_ghostBlind
  | notify => exact notifyStep_ghostBlind
  | reader => exact readerStep_ghostBlind
  | issue tx => exact issueTransaction_ghostBlind tx
  | rdres => exact hostRdres_ghostBlind
  | rdstat => exact fun _ => rfl

/-- The choice of the next move reads no ghost. -/
theorem nextMove_eraseGhosts (s : State) :
    nextMove (eraseGhosts s) = ((nextMove s).1, eraseGhosts (nextMove s).2) := by
  have ha : (eraseGhosts s).agenda = s.agenda := rfl
  unfold nextMove
  rw [ha]
  cases s.agenda <;> rfl

/-- Settles O58: the move and the check of the configuration read no ghost, and no move reads one. -/
theorem ghostsChangeNoBehaviour : Obligations.GhostsChangeNoBehaviour := by
  intro s
  have hcfg : (eraseGhosts s).cfg = s.cfg := rfl
  simp only [step, nextMove_eraseGhosts, hcfg, apply_ite (mapNext eraseGhosts)]
  rw [runEvent_ghostBlind]

end Sys2Proof.Ghosts
end

section
/-! PROOFS. The writers of each shared element (spec/20_memory.md R47) and the steps that sample without writing (R43):
outside INIT_X a READER step writes SUP alone of the shared elements, and the HOST's steps write none. -/

namespace Sys2Proof.Writers

open Sys2Proof.Machine Sys2Proof.Safety Sys2Proof.Scope Sys2Proof.Invariants Sys2Proof.Frames

/-! ### The READER outside INIT_X -/

/-- The frame of the READER's step outside INIT_X, enabled or not. -/
theorem readerStep_outsideReader {s t : State} (hinit : s.ph ≠ .initX) (h : readerStep s = .next t) :
    outsideReader t = outsideReader s := by
  obtain ⟨-, h⟩ | ⟨-, h⟩ := readerStep_cases h
  · cases h; rfl
  · exact microStep_outsideReader hinit h.symm

/-- Settles O43: the elements named lie outside what a READER step other than INIT_X writes. -/
theorem samplesHaveNoSideEffect : Obligations.SamplesHaveNoSideEffect := by
  intro s t hinit h
  have hframe := readerStep_outsideReader hinit h
  exact ⟨(congrArg State.hw hframe :), (congrArg State.ps hframe :), (congrArg State.ovf hframe :),
    (congrArg State.pend hframe :), (congrArg State.armed hframe :), (congrArg State.gw hframe :),
    (congrArg State.initd hframe :), (congrArg State.flt hframe :), (congrArg State.cmd hframe :),
    (congrArg State.arg hframe :), (congrArg State.reply hframe :)⟩

/-! ### SUP (R19) -/

theorem firstOf_sup (s : State) (i : Instr) (t : State) : (firstOf s i t).sup = t.sup := by
  cases i with
  | nowms | nowus =>
    change (enterNow t).sup = t.sup
    unfold enterNow
    split <;> rfl
  | init | read16 | readw | t2ms | t2us => rfl

theorem armOverflow_sup (s : State) : (armOverflow s).sup = s.sup := by
  unfold armOverflow
  split <;> rfl

theorem ret16_sup {v : Half} {s t : State} (h : ret16 v s = .next t) : t.sup = s.sup := by
  obtain ⟨-, h⟩ | ⟨-, -, h⟩ | ⟨-, -, h⟩ | ⟨-, h⟩ := ret16_cases h <;> cases h <;> rfl

theorem retW_sup {v : Word} {s t : State} (h : retW v s = .next t) : t.sup = s.sup := by
  obtain ⟨-, h⟩ | ⟨-, h⟩ | ⟨-, h⟩ := retW_cases h <;> cases h <;> rfl

theorem phaseR16H2_sup {s t : State} (h : phaseR16H2 s = .next t) : t.sup = s.sup := by
  obtain ⟨-, h⟩ | ⟨-, -, h⟩ | ⟨-, -, h⟩ := phaseR16H2_cases h
  · exact (ret16_sup h.symm).trans rfl
  · cases h; rfl
  · cases h; rfl

theorem phaseWO2_sup {s t : State} (h : phaseWO2 s = .next t) : t.sup = s.sup := by
  obtain ⟨-, h⟩ | ⟨-, -, h⟩ | ⟨-, -, h⟩ := phaseWO2_cases h
  · exact (retW_sup h.symm).trans rfl
  · cases h; rfl
  · cases h; rfl

/-- Only the ends of the two suppressed regions write SUP (R73, R75, R80, R82). -/
theorem microStep_sup {s t : State} (h : microStep s = .next t) :
    t.sup ≠ s.sup → s.ph = .r16Sup ∨ s.ph = .r16Rst ∨ s.ph = .wSup ∨ s.ph = .wRst := by
  unfold microStep at h
  cases hp : s.ph with rw [hp] at h
  | r16Sup | r16Rst | wSup | wRst => simp
  | initX => cases h; exact absurd (armOverflow_sup s)
  | r16H2 => exact absurd (phaseR16H2_sup h)
  | wO2 => exact absurd (phaseWO2_sup h)
  | idle | r16H1 | r16L | r16Smp | wO1 | wSnp | conv => cases h; exact absurd rfl

/-- SUP is written by the READER's fallback steps alone. -/
theorem runEvent_sup {ev : Event} {s t : State} (h : runEvent ev s = .next t) :
    t.sup ≠ s.sup → ev = .reader ∧ (s.ph = .r16Sup ∨ s.ph = .r16Rst ∨ s.ph = .wSup ∨ s.ph = .wRst) := by
  cases ev with
  | tick =>
    obtain ⟨-, h⟩ | ⟨-, h⟩ | ⟨-, -, h⟩ | ⟨-, -, h⟩ := tickStep_cases h <;> cases h <;> exact absurd rfl
  | notify => obtain ⟨-, h⟩ | ⟨-, h⟩ := notifyStep_cases h <;> cases h <;> exact absurd rfl
  | reader =>
    obtain ⟨-, h⟩ | ⟨-, h⟩ := readerStep_cases h
    · cases h; exact absurd rfl
    · exact fun hne => ⟨rfl, microStep_sup h.symm hne⟩
  | issue tx =>
    obtain rfl | ⟨f, -, rfl⟩ | ⟨i, -, rfl⟩ := issueTransaction_cases h
    · exact absurd rfl
    · exact absurd rfl
    · exact absurd (firstOf_sup s i _)
  | rdres =>
    obtain ⟨-, h⟩ | ⟨-, -, h⟩ | ⟨-, -, -, h⟩ | ⟨-, -, -, h⟩ := hostRdres_cases h <;> cases h <;> exact absurd rfl
  | rdstat => cases h; exact absurd rfl

/-! ### The other shared elements (R47) -/

/-- The shared elements of R47 but SUP: HW, PEND, OVF, ARMED, PS and INITD. -/
def sharedElements (s : State) : Half × Bool × Half × Bool × BitVec 3 × Bool :=
  (s.hw, s.pend, s.ovf, s.armed, s.ps, s.initd)

theorem sharedElements_eq_iff (s t : State) : sharedElements t = sharedElements s ↔
    t.hw = s.hw ∧ t.pend = s.pend ∧ t.ovf = s.ovf ∧ t.armed = s.armed ∧ t.ps = s.ps ∧ t.initd = s.initd := by
  simp [sharedElements]

theorem sharedElements_of_outsideReader {s t : State} (h : outsideReader t = outsideReader s) :
    sharedElements t = sharedElements s :=
  (congrArg sharedElements h :)

/-- A move leaves these elements as they are, or it is an enabled TICK, an enabled NOTIFY or INIT_X. -/
theorem runEvent_sharedElements {ev : Event} {s t : State} (h : runEvent ev s = .next t) :
    sharedElements t = sharedElements s ∨
    (ev = .tick ∧ (t = wrapCounter s ∨ t = advanceCounter s)) ∨
    (ev = .notify ∧ t = takeNotification s) ∨
    (ev = .reader ∧ s.ph = .initX ∧ t = complete (startCounter (armOverflow s))) := by
  cases ev with
  | tick => obtain ⟨-, h⟩ | ⟨-, h⟩ | ⟨-, -, h⟩ | ⟨-, -, h⟩ := tickStep_cases h <;> cases h <;> simp
  | notify => obtain ⟨-, h⟩ | ⟨-, h⟩ := notifyStep_cases h <;> cases h <;> simp
  | reader =>
    by_cases hinit : s.ph = .initX
    · obtain ⟨-, h⟩ | ⟨-, h⟩ := readerStep_cases h
      · cases h; exact .inl rfl
      · rw [microStep, hinit] at h
        cases h
        exact .inr (.inr (.inr ⟨rfl, hinit, rfl⟩))
    · exact .inl (sharedElements_of_outsideReader (readerStep_outsideReader hinit h))
  | issue tx =>
    obtain rfl | ⟨f, -, rfl⟩ | ⟨i, -, rfl⟩ := issueTransaction_cases h
    · exact .inl rfl
    · exact .inl rfl
    · exact .inl ((sharedElements_of_outsideReader (firstOf_outsideReader s i _)).trans rfl)
  | rdres =>
    obtain ⟨-, h⟩ | ⟨-, -, h⟩ | ⟨-, -, -, h⟩ | ⟨-, -, -, h⟩ := hostRdres_cases h <;> cases h <;> exact .inl rfl
  | rdstat => cases h; exact .inl rfl

/-- What INIT_X writes of PEND and OVF, it writes when EN_WIDE: both become 0 (R66). -/
theorem armOverflow_pend_ovf (s : State) :
    ((armOverflow s).pend = s.pend ∧ (armOverflow s).ovf = s.ovf) ∨
    (s.cfg.enWide = true ∧ (armOverflow s).pend = false ∧ (armOverflow s).ovf = 0#16) := by
  cases hw : s.cfg.enWide <;> simp [armOverflow, hw]

theorem armOverflow_hw (s : State) : (armOverflow s).hw = s.hw := by
  unfold armOverflow
  split <;> rfl

/-- Settles O42: the steps that write a shared element are those of R47, each with what it writes. -/
theorem singleWriters : Obligations.SingleWriters := by
  intro ev s t h
  have hsup := runEvent_sup h
  have hcfg := runEvent_keeps_cfg h
  obtain heq | ⟨rfl, rfl | rfl⟩ | ⟨rfl, rfl⟩ | ⟨rfl, hinit, rfl⟩ := runEvent_sharedElements h
  · obtain ⟨hhw, hpend, hovf, harmed, hps, hinitd⟩ := (sharedElements_eq_iff s t).1 heq
    exact ⟨absurd hhw, absurd hpend, absurd hovf, hsup, by simp [harmed, hps, hinitd], hcfg⟩
  · exact ⟨fun _ => rfl, fun _ => .inl ⟨rfl, rfl⟩, absurd rfl, hsup, by simp, hcfg⟩
  · exact ⟨fun _ => rfl, absurd rfl, absurd rfl, hsup, by simp, hcfg⟩
  · exact ⟨absurd rfl, fun _ => .inr (.inl ⟨rfl, rfl⟩), fun _ => .inl ⟨rfl, rfl⟩, hsup, by simp, hcfg⟩
  · refine ⟨absurd (armOverflow_hw s), ?_, ?_, hsup, fun _ => ⟨rfl, hinit⟩, hcfg⟩
    all_goals
      obtain ⟨hpend, hovf⟩ | ⟨hwide, hpend, hovf⟩ := armOverflow_pend_ovf s
      · simp [hpend, hovf]
      · simp [hwide, hpend, hovf, hinit]

end Sys2Proof.Writers
end

section
/-! PROOFS. A READ16 with no TICK step in it (spec/20_memory.md R43, spec/41_counter_reads.md R86(b)): its three
samples agree with HW, so its first attempt is accepted. -/

namespace Sys2Proof.QuietReads

open Sys2Proof.Machine Sys2Proof.Safety Sys2Proof.Scope Sys2Proof.Invariants Sys2Proof.Frames

/-! ### ISSUE of a command that no check turns away -/

/-- With FLT = 0 and every check of R61 passed, a command's meaning is its latches and its first phase (R61, R62). -/
theorem exec_of_accepted {i : Instr} {s : State} (hflt : s.flt = 0#3) (hi : issueFault (encode i).code s = none) :
    exec i s = .next (firstOf s i (accept (encode i).code i.operand s)) := by
  rw [exec_eq_issue, issue, if_pos ((faultFree_iff s).2 hflt), hi]

/-- READ16 is accepted wherever the block takes commands (R54, R61). -/
theorem exec_read16_of_acceptsCommands {s : State} (h : acceptsCommands s) (w : Word) :
    exec (.read16 w) s = .next (enter16 (accept 0x02#8 w s)) := by
  obtain ⟨hflt, hbusy, hinitd⟩ := h
  exact exec_of_accepted hflt ((issueFault_eq_none_iff _ _).2 ⟨hbusy, rfl, by simp [hinitd, encode]⟩)

/-! ### Moves between the READER's steps -/

/-- The state without the elements that NOTIFY, RDRES and RDSTAT write. -/
def outsideBystanders (s : State) : State :=
  { s with ovf := 0, pend := false, flt := 0, reply := none }

/-- A move that is no READER move, delivers no command and takes no TICK step writes OVF, PEND, FLT and the reply
alone (R63, R64, R110). -/
theorem runEvent_outsideBystanders {ev : Event} {s t : State} (hreader : ev ≠ .reader) (hissue : isIssue ev = false)
    (htick : takesTick ev s = false) (h : runEvent ev s = .next t) : outsideBystanders t = outsideBystanders s := by
  cases ev with
  | tick =>
    have hstopped : tickEnabled s = false := htick
    obtain ⟨-, h⟩ | ⟨-, h⟩ | ⟨ht, -⟩ | ⟨ht, -⟩ := tickStep_cases h
    · cases h
    · cases h; rfl
    · exact absurd (hstopped.symm.trans ht) Bool.noConfusion
    · exact absurd (hstopped.symm.trans ht) Bool.noConfusion
  | notify => obtain ⟨-, h⟩ | ⟨-, h⟩ := notifyStep_cases h <;> cases h <;> rfl
  | reader => exact absurd rfl hreader
  | issue tx => cases hissue
  | rdres =>
    obtain ⟨-, h⟩ | ⟨-, -, h⟩ | ⟨-, -, -, h⟩ | ⟨-, -, -, h⟩ := hostRdres_cases h <;> cases h <;> rfl
  | rdstat => cases h; rfl

/-! ### The progress of the read -/

/-- What the first attempt of a READ16 holds after `n` READER steps, the counter standing at `v` (R70 to R72). -/
def attemptAt (v : Half) (u : State) : Nat → Prop
  | 0 => u.ph = .r16H1 ∧ u.busy = true
  | 1 => u.ph = .r16L ∧ u.busy = true ∧ u.h1 = highByte v
  | 2 => u.ph = .r16H2 ∧ u.busy = true ∧ u.h1 = highByte v ∧ u.lo = lowByte v ∧ u.gt16 = v
  | 3 => u.ph = .idle ∧ u.busy = false ∧ u.res = zext v ∧ u.rv = true
  | _ => False

/-- A READ16 has run `n` READER steps of its first attempt with the counter standing at `v`, and HZ_TORN16 is still
`torn`. -/
structure QuietRead (v : Half) (torn : Bool) (n : Nat) (u : State) : Prop where
  hw : u.hw = v
  torn16 : u.hzTorn16 = torn
  cmd : u.cmd = 0x02#8
  attempt : attemptAt v u n

section Steps

variable {v : Half} {torn : Bool} {n : Nat} {u u' : State}

/-- An accepted READ16 has run no step yet (R62). -/
theorem quietRead_issued (w : Word) (s : State) : QuietRead s.hw s.hzTorn16 0 (enter16 (accept 0x02#8 w s)) :=
  ⟨rfl, rfl, rfl, rfl, rfl⟩

/-- The progress is told by elements that the bystanders do not write. -/
theorem QuietRead.congr (q : QuietRead v torn n u) (h : outsideBystanders u' = outsideBystanders u) :
    QuietRead v torn n u' := by
  have q' : QuietRead v torn n (outsideBystanders u') := h ▸ ⟨q.hw, q.torn16, q.cmd, q.attempt⟩
  exact ⟨q'.hw, q'.torn16, q'.cmd, q'.attempt⟩

/-- READ16 itself completes with the value read (R76). -/
theorem ret16_of_read16 {s : State} (hcmd : s.cmd = 0x02#8) (x : Half) :
    ret16 x s = .next (completeWith (zext x) s) :=
  if_pos hcmd

/-- R16_H2 accepts: the high byte re-read is the one sampled first, and the candidate is the truth (R72, R76). -/
theorem QuietRead.phaseR16H2 (q : QuietRead v torn 2 u) (h : phaseR16H2 u = .next u') : QuietRead v torn 3 u' := by
  obtain ⟨hhw, htorn, hcmd, -, -, hh1, hlo, hgt⟩ := q
  have hsample : sampleHwh u = u.h1 := by rw [sampleHwh, hhw, hh1]
  have hjoin : joinBytes u.h1 u.lo = v := by rw [hh1, hlo, joinBytes_highByte_lowByte]
  obtain ⟨-, h⟩ | ⟨hne, -⟩ | ⟨hne, -⟩ := phaseR16H2_cases h
  · rw [hjoin, ret16_of_read16 (s := accept16 v (recheck16 u)) hcmd] at h
    cases h
    exact ⟨hhw, by simp [torn16After, htorn, hgt], hcmd, rfl, rfl, rfl, rfl⟩
  · exact absurd hsample hne
  · exact absurd hsample hne

/-- A READER step takes the read one step further (R70 to R72). -/
theorem QuietRead.microStep (q : QuietRead v torn n u) (hidle : u.ph ≠ .idle) (h : microStep u = .next u') :
    QuietRead v torn (n + 1) u' := by
  have ⟨hhw, htorn, hcmd, hat⟩ := q
  unfold Machine.microStep at h
  match n, hat with
  | 0, hat =>
    obtain ⟨hph, hb⟩ := hat
    rw [hph] at h
    cases h
    exact ⟨hhw, htorn, hcmd, rfl, hb, congrArg highByte hhw⟩
  | 1, hat =>
    obtain ⟨hph, hb, hh1⟩ := hat
    rw [hph] at h
    cases h
    exact ⟨hhw, htorn, hcmd, rfl, hb, hh1, congrArg lowByte hhw, hhw⟩
  | 2, hat =>
    rw [hat.1] at h
    exact q.phaseR16H2 h
  | 3, hat => exact absurd hat.1 hidle

/-- A move that delivers no command and takes no TICK step keeps the progress, which counts the READER steps. -/
theorem QuietRead.runEvent {ev : Event} (q : QuietRead v torn n u) (hissue : isIssue ev = false)
    (htick : takesTick ev u = false) (h : runEvent ev u = .next u') :
    QuietRead v torn (n + if takesReader ev u then 1 else 0) u' := by
  by_cases hreader : ev = .reader
  · subst hreader
    have htakes : takesReader .reader u = readerEnabled u := rfl
    obtain ⟨hen, h⟩ | ⟨hen, h⟩ := readerStep_cases h <;> rw [htakes, hen]
    · cases h; exact q
    · obtain ⟨-, hidle, -⟩ := (readerEnabled_iff u).1 hen
      exact q.microStep hidle h.symm
  · have htakes : takesReader ev u = false := by simp [takesReader, hreader]
    rw [htakes]
    exact q.congr (runEvent_outsideBystanders hreader hissue htick h)

/-- Along a schedule that delivers no command and takes no TICK step the progress counts the READER steps. -/
theorem QuietRead.runSchedule {evs : List Event} (q : QuietRead v torn n u) (hissue : noIssue evs)
    (hrun : runSchedule evs u = some u') (hticks : ticksTaken evs u = 0) :
    QuietRead v torn (n + readerTaken evs u) u' := by
  induction evs generalizing n u with
  | nil => cases hrun; exact q
  | cons ev evs ih =>
    obtain ⟨m, hm, hrun⟩ := runSchedule_cons_eq_some.1 hrun
    obtain ⟨hev, hevs⟩ := List.forall_mem_cons.1 hissue
    rw [ticksTaken, countAlong_cons_of_next hm, Nat.add_eq_zero_iff] at hticks
    obtain ⟨htick, hticks⟩ := hticks
    have hrest := ih (q.runEvent hev (by simpa using htick) hm) hevs hrun hticks
    rwa [Nat.add_assoc, readerTaken, ← countAlong_cons_of_next hm] at hrest

/-- A quiet read that is not busy has run its three steps, and RES holds the counter (R72, R76). -/
theorem QuietRead.completed (q : QuietRead v torn n u) (hbusy : u.busy = false) :
    n = 3 ∧ u.res = zext v ∧ u.rv = true := by
  have hnot : ¬u.busy = true := by simp [hbusy]
  match n, q.attempt with
  | 0, hat => exact absurd hat.2 hnot
  | 1, hat => exact absurd hat.2.1 hnot
  | 2, hat => exact absurd hat.2.1 hnot
  | 3, hat => exact ⟨rfl, hat.2.2⟩

end Steps

/-- Settles O54: with the counter standing still the first attempt is accepted, whatever falls between its steps. -/
theorem read16IsIdempotentWithoutTicks : Obligations.Read16IsIdempotentWithoutTicks := by
  intro w s t u evs _ haccepts hexec hissue hrun hticks hbusy
  rw [exec_read16_of_acceptsCommands haccepts] at hexec
  cases hexec
  have q := (quietRead_issued w s).runSchedule hissue hrun hticks
  obtain ⟨hn, hres, hrv⟩ := q.completed hbusy
  exact ⟨hres, hrv, q.hw, q.torn16, by simpa using hn⟩

end Sys2Proof.QuietReads
end

section
/-! PROOFS. The OPEN parameters HOST_BYTE_ORDER and RTCX_BASE (spec/20_memory.md R40, R44) are read by no rule: every
move commutes with giving them other values. -/

namespace Sys2Proof.OpenParameters

open Sys2Proof.Machine Sys2Proof.Safety Sys2Proof.Scope
open Host (Outcome)

/-- Under other values of the OPEN parameters the operation answers the same, but for the parameters themselves. -/
def OpenBlind (order : ByteOrder) (base : Nat) (op : State → Outcome State Fault Refusal) : Prop :=
  ∀ s, op (withOpenParameters order base s) = mapNext (withOpenParameters order base) (op s)

section Moves

variable {order : ByteOrder} {base : Nat}

/-! ### ISSUE -/

theorem firstOf_withOpenParameters (s : State) (i : Instr) (t : State) :
    firstOf (withOpenParameters order base s) i (withOpenParameters order base t) =
      withOpenParameters order base (firstOf s i t) := by
  cases i with
  | nowms | nowus =>
    exact (apply_ite (withOpenParameters order base) (t.cfg.enWide = true) (enterW t) (enter16 t)).symm
  | init | read16 | readw | t2ms | t2us => rfl

/-- ISSUE is blind to the OPEN parameters if its first phase is. -/
theorem issue_withOpenParameters {first first' : State → State}
    (hfirst : ∀ t, first' (withOpenParameters order base t) = withOpenParameters order base (first t))
    (code : Byte) (arg : Word) (s : State) :
    issue code arg first' (withOpenParameters order base s) =
      mapNext (withOpenParameters order base) (issue code arg first s) := by
  have hfault : issueFault code (withOpenParameters order base s) = issueFault code s := rfl
  unfold issue
  simp only [apply_ite (mapNext (withOpenParameters order base)), hfault]
  cases issueFault code s with
  | some f => rfl
  | none => exact if_congr Iff.rfl (congrArg Outcome.next (hfirst (accept code arg s))) rfl

theorem issueTransaction_openBlind (tx : Transaction) : OpenBlind order base (issueTransaction tx) := by
  intro s
  cases hd : decode tx with
  | ok i =>
    simp only [issueTransaction_of_decode hd, exec_eq_issue]
    exact issue_withOpenParameters (firstOf_withOpenParameters s i) _ _ s
  | error e =>
    simp only [issueTransaction_of_reserved hd]
    exact issue_withOpenParameters (first := fun t => t) (first' := fun t => t) (fun _ => rfl) _ _ s

/-! ### The READER -/

theorem ret16_openBlind (v : Half) : OpenBlind order base (ret16 v) := by
  intro s
  simp only [ret16, apply_ite (mapNext (withOpenParameters order base))]
  rfl

theorem retW_openBlind (v : Word) : OpenBlind order base (retW v) := by
  intro s
  simp only [retW, apply_ite (mapNext (withOpenParameters order base))]
  rfl

theorem phaseInitX_openBlind : OpenBlind order base phaseInitX := by
  intro s
  have harm : armOverflow (withOpenParameters order base s) = withOpenParameters order base (armOverflow s) := by
    simp only [armOverflow, apply_ite (withOpenParameters order base)]
    rfl
  rw [phaseInitX, harm]
  rfl

theorem phaseR16H2_openBlind : OpenBlind order base phaseR16H2 := by
  intro s
  simp only [phaseR16H2, apply_ite (mapNext (withOpenParameters order base)), ← ret16_openBlind _ _]
  rfl

theorem phaseWO2_openBlind : OpenBlind order base phaseWO2 := by
  intro s
  simp only [phaseWO2, apply_ite (mapNext (withOpenParameters order base)), ← retW_openBlind _ _]
  rfl

/-- The converter reads F_HZ, P_REQ and EN_WIDE, and no OPEN parameter (R101). -/
theorem converted_withOpenParameters (s : State) : converted (withOpenParameters order base s) = converted s := rfl

theorem phaseConv_openBlind : OpenBlind order base phaseConv := by
  intro s
  rw [phaseConv, converted_withOpenParameters]
  rfl

theorem microStep_openBlind : OpenBlind order base microStep := by
  intro s
  have hph : (withOpenParameters order base s).ph = s.ph := rfl
  unfold microStep
  rw [hph]
  cases s.ph with
  | initX => exact phaseInitX_openBlind s
  | r16H2 => exact phaseR16H2_openBlind s
  | r16Rst => exact ret16_openBlind s.v16 { s with sup := false }
  | wO2 => exact phaseWO2_openBlind s
  | wRst => exact retW_openBlind s.vt { s with sup := false }
  | conv => exact phaseConv_openBlind s
  | idle | r16H1 | r16L | r16Sup | r16Smp | wO1 | wSup | wSnp => rfl

theorem readerStep_openBlind : OpenBlind order base readerStep := by
  intro s
  simp only [readerStep, apply_ite (mapNext (withOpenParameters order base)), ← microStep_openBlind s]
  rfl

/-! ### TICK, NOTIFY and the HOST's reads -/

theorem tickStep_openBlind : OpenBlind order base tickStep := by
  intro s
  simp only [tickStep, countTick, apply_ite (mapNext (withOpenParameters order base)), mapNext_next,
    apply_ite (withOpenParameters order base)]
  rfl

theorem notifyStep_openBlind : OpenBlind order base notifyStep := by
  intro s
  simp only [notifyStep, apply_ite (mapNext (withOpenParameters order base))]
  rfl

theorem hostRdres_openBlind : OpenBlind order base hostRdres := by
  intro s
  simp only [hostRdres, readResult, mapNext_next, apply_ite (withOpenParameters order base)]
  rfl

/-- No move of any agent reads an OPEN parameter. -/
theorem runEvent_openBlind (ev : Event) : OpenBlind order base (runEvent ev) := by
  cases ev with
  | tick => exact tickStep_openBlind
  | notify => exact notifyStep_openBlind
  | reader => exact readerStep_openBlind
  | issue tx => exact issueTransaction_openBlind tx
  | rdres => exact hostRdres_openBlind
  | rdstat => exact fun _ => rfl

/-- The choice of the next move reads no OPEN parameter. -/
theorem nextMove_withOpenParameters (s : State) :
    nextMove (withOpenParameters order base s) =
      ((nextMove s).1, withOpenParameters order base (nextMove s).2) := by
  have ha : (withOpenParameters order base s).agenda = s.agenda := rfl
  unfold nextMove
  rw [ha]
  cases s.agenda <;> rfl

end Moves

/-- Settles O59: the choice of the move, the check of the configuration and the move itself read no OPEN parameter. -/
theorem openParametersChangeNoBehaviour : Obligations.OpenParametersChangeNoBehaviour := by
  intro order base s
  have hwf : (withOpenParameters order base s).cfg.wf = s.cfg.wf := rfl
  simp only [step, nextMove_withOpenParameters, hwf, runEvent_openBlind _ _,
    apply_ite (mapNext (withOpenParameters order base))]
  rfl

end Sys2Proof.OpenParameters
end

section
/-! PROOFS. The encoding of commands (spec/30_encoding.md R51 to R57). A transaction is the encoding of a command or has
a reserved code, never both (`encoded_or_reserved`, `decode_encode`, `decode_of_reserved_code`); what the decoder, the
verdict and ISSUE answer follows in each of the two cases. -/

namespace Sys2Proof.Encoding

open Sys2Proof.Machine Sys2Proof.Invariants

/-! ### Commands and reserved codes (R54, R55) -/

/-- The decoder reads an encoded command back, whatever its operand (R54). -/
@[simp] theorem decode_encode (i : Instr) : decode (encode i) = .ok i := by
  cases i <;> rfl

/-- A transaction with a reserved code is rejected, and the error names that code (R55). -/
theorem decode_of_reserved_code {tx : Transaction} (h : tx.code.toNat = 0 ∨ 8 ≤ tx.code.toNat) :
    decode tx = .error (.reservedCode tx.code) := by
  unfold decode
  split
  case h_8 => rfl
  all_goals omega

/-- The opcode map leaves no gap: every transaction encodes a command or has a reserved code (R54, R55). -/
theorem encoded_or_reserved (tx : Transaction) :
    (∃ i, tx = encode i) ∨ tx.code.toNat = 0 ∨ 8 ≤ tx.code.toNat := by
  obtain ⟨code, arg⟩ := tx
  by_cases hr : code.toNat = 0 ∨ 8 ≤ code.toNat
  · exact .inr hr
  have hcodes : code = 1#8 ∨ code = 2#8 ∨ code = 3#8 ∨ code = 4#8 ∨ code = 5#8 ∨ code = 6#8 ∨ code = 7#8 := by
    bv_omega
  obtain rfl | rfl | rfl | rfl | rfl | rfl | rfl := hcodes
  · exact .inl ⟨.init arg, rfl⟩
  · exact .inl ⟨.read16 arg, rfl⟩
  · exact .inl ⟨.readw arg, rfl⟩
  · exact .inl ⟨.t2ms arg, rfl⟩
  · exact .inl ⟨.t2us arg, rfl⟩
  · exact .inl ⟨.nowms arg, rfl⟩
  · exact .inl ⟨.nowus arg, rfl⟩

/-- The decoder accepts a transaction as a command only if it is that command's encoding. -/
theorem encode_of_decode {tx : Transaction} {i : Instr} (h : decode tx = .ok i) : encode i = tx := by
  obtain ⟨j, rfl⟩ | hr := encoded_or_reserved tx
  · rw [decode_encode] at h
    cases h
    rfl
  · rw [decode_of_reserved_code hr] at h
    cases h

/-- The decoder rejects exactly the reserved codes (R55). -/
theorem decode_eq_reservedCode_iff (tx : Transaction) :
    decode tx = .error (.reservedCode tx.code) ↔ tx.code.toNat = 0 ∨ 8 ≤ tx.code.toNat := by
  refine ⟨fun h => ?_, decode_of_reserved_code⟩
  obtain ⟨i, rfl⟩ | hr := encoded_or_reserved tx
  · rw [decode_encode] at h
    cases h
  · exact hr

/-! ### The bit numbering (log 12) -/

/-- A transaction has 40 bits (R51). -/
theorem bitsOfTransaction_lt (tx : Transaction) : bitsOfTransaction tx < 2 ^ 40 := by
  have hcode := tx.code.isLt
  have harg := tx.arg.isLt
  unfold bitsOfTransaction
  omega

/-- The numbering loses no bit: CODE is the remainder by 256 and ARG the quotient (R51, R52). -/
@[simp] theorem transactionOfBits_bitsOfTransaction (tx : Transaction) :
    transactionOfBits 40 (bitsOfTransaction tx) = tx := by
  obtain ⟨code, arg⟩ := tx
  have hcode := code.isLt
  have hcodeBits : BitVec.ofNat 8 (code.toNat + 256 * arg.toNat) = code :=
    BitVec.eq_of_toNat_eq (by rw [BitVec.toNat_ofNat]; omega)
  have hargBits : (code.toNat + 256 * arg.toNat) / 256 = arg.toNat := by omega
  rw [transactionOfBits, Nat.mod_eq_of_lt (bitsOfTransaction_lt _), bitsOfTransaction, hcodeBits, hargBits,
    BitVec.ofNat_toNat, BitVec.setWidth_eq]

/-! ### The verdict of a code (R54 to R57) -/

@[simp] theorem verdictWhen_eq_present_iff (b : Bool) : verdictWhen b = .present ↔ b = true := by
  cases b <;> decide

@[simp] theorem verdictWhen_eq_leftOut_iff (b : Bool) : verdictWhen b = .leftOut ↔ b = false := by
  cases b <;> decide

theorem verdictWhen_ne_reserved (b : Bool) : verdictWhen b ≠ .reserved := by
  cases b <;> decide

/-- The code of a command is present iff the configuration has the command, else left out (R54, R56). -/
@[simp] theorem verdict_encode (c : Config) (i : Instr) : verdict c (encode i).code = verdictWhen (i.wf c) := by
  cases i <;> rfl

/-- A verdict other than reserved is that of a command: the code is the command's, and the configuration decides. -/
theorem verdict_eq_iff_exists {v : Verdict} (hv : v ≠ .reserved) (c : Config) (code : Byte) :
    verdict c code = v ↔ ∃ i : Instr, code = (encode i).code ∧ verdictWhen (i.wf c) = v := by
  constructor
  · intro h
    obtain ⟨i, hi⟩ | hr := encoded_or_reserved ⟨code, 0⟩
    · have hcode : code = (encode i).code := congrArg Transaction.code hi
      exact ⟨i, hcode, by rw [← verdict_encode, ← hcode, h]⟩
    · exact absurd (h.symm.trans (verdict_of_reserved (decode_of_reserved_code hr) c)) hv
  · rintro ⟨i, rfl, h⟩
    rw [verdict_encode, h]

/-- The codes reserved in a configuration are those of R55, the same in every configuration. -/
theorem verdict_eq_reserved_iff (c : Config) (code : Byte) :
    verdict c code = .reserved ↔ code.toNat = 0 ∨ 8 ≤ code.toNat := by
  refine ⟨fun h => ?_, fun h => verdict_of_reserved (tx := ⟨code, 0⟩) (decode_of_reserved_code h) c⟩
  obtain ⟨i, hi⟩ | hr := encoded_or_reserved ⟨code, 0⟩
  · have hcode : code = (encode i).code := congrArg Transaction.code hi
    rw [hcode, verdict_encode] at h
    exact absurd h (verdictWhen_ne_reserved _)
  · exact hr

/-- A search through the commands, by the seven rows of the opcode map (R54). -/
theorem exists_instr {p : Instr → Prop} :
    (∃ i, p i) ↔ (∃ a, p (.init a)) ∨ (∃ a, p (.read16 a)) ∨ (∃ a, p (.readw a)) ∨ (∃ a, p (.t2ms a)) ∨
      (∃ a, p (.t2us a)) ∨ (∃ a, p (.nowms a)) ∨ (∃ a, p (.nowus a)) := by
  constructor
  · rintro ⟨i, h⟩
    cases i with
    | init a => exact .inl ⟨a, h⟩
    | read16 a => exact .inr (.inl ⟨a, h⟩)
    | readw a => exact .inr (.inr (.inl ⟨a, h⟩))
    | t2ms a => exact .inr (.inr (.inr (.inl ⟨a, h⟩)))
    | t2us a => exact .inr (.inr (.inr (.inr (.inl ⟨a, h⟩))))
    | nowms a => exact .inr (.inr (.inr (.inr (.inr (.inl ⟨a, h⟩)))))
    | nowus a => exact .inr (.inr (.inr (.inr (.inr (.inr ⟨a, h⟩)))))
  · rintro (⟨a, h⟩ | ⟨a, h⟩ | ⟨a, h⟩ | ⟨a, h⟩ | ⟨a, h⟩ | ⟨a, h⟩ | ⟨a, h⟩) <;> exact ⟨_, h⟩

/-- The present codes, with the "present iff" column of R54. -/
theorem verdict_eq_present_iff (c : Config) (code : Byte) :
    verdict c code = .present ↔
      code = 0x01#8 ∨ code = 0x02#8 ∨ (code = 0x03#8 ∧ c.enWide = true) ∨
      ((code = 0x04#8 ∨ code = 0x06#8) ∧ c.enMs = true) ∨ ((code = 0x05#8 ∨ code = 0x07#8) ∧ c.enUs = true) := by
  rw [verdict_eq_iff_exists (by decide), exists_instr]
  simp only [encode, Instr.wf, verdictWhen_eq_present_iff, exists_const, and_true]
  tauto

/-- The codes a configuration leaves out (R56). -/
theorem verdict_eq_leftOut_iff (c : Config) (code : Byte) :
    verdict c code = .leftOut ↔
      (code = 0x03#8 ∧ c.enWide = false) ∨ ((code = 0x04#8 ∨ code = 0x06#8) ∧ c.enMs = false) ∨
      ((code = 0x05#8 ∨ code = 0x07#8) ∧ c.enUs = false) := by
  rw [verdict_eq_iff_exists (by decide), exists_instr]
  simp only [encode, Instr.wf, verdictWhen_eq_leftOut_iff, exists_const, reduceCtorEq, and_false, false_or]
  tauto

/-! ### ISSUE of a reserved code (R55, R104) -/

/-- ISSUE of a code that is not present raises F_BUSY while a command is in progress, else F_ILLEGAL_CMD (R104). -/
theorem issueFault_of_not_present {code : Byte} {s : State} (h : verdict s.cfg code ≠ .present) :
    issueFault code s = some (if s.busy then .busy else .illegalCmd) := by
  unfold issueFault
  cases s.busy <;> simp [h]

/-- ISSUE of a reserved code in a fault-free state raises a fault and nothing else (R55). -/
theorem issueTransaction_of_reserved_code {tx : Transaction} {s : State}
    (hr : tx.code.toNat = 0 ∨ 8 ≤ tx.code.toNat) (hflt : s.flt = 0#3) :
    issueTransaction tx s = .next (raise (if s.busy then .busy else .illegalCmd) s) := by
  have hd := decode_of_reserved_code hr
  have hv : verdict s.cfg tx.code ≠ .present := by simp [verdict_of_reserved hd]
  rw [issueTransaction_of_reserved hd, issue, if_pos ((Frames.faultFree_iff s).2 hflt), issueFault_of_not_present hv]

/-! ### The obligations -/

/-- Settles O1: the numbering is inverted bit for bit, and the opcode map both ways. -/
theorem encodedCommandDecodesToItself : Obligations.EncodedCommandDecodesToItself := by
  refine ⟨fun i => ?_, transactionOfBits_bitsOfTransaction, fun _ _ => encode_of_decode⟩
  rw [Scope.decodeTableWord_eq_some, transactionOfBits_bitsOfTransaction, decode_encode]

/-- Settles O2: a reserved code is present in no configuration, so one of the first two checks of R61 fails. -/
theorem reservedCodesOnlyFault : Obligations.ReservedCodesOnlyFault := by
  refine fun tx s => ⟨decode_eq_reservedCode_iff tx, fun hr hflt => ?_⟩
  rw [issueTransaction_of_reserved_code hr hflt]
  exact congrArg Host.Outcome.next (apply_ite (raise · s) _ _ _)

/-- Settles O3: each verdict by the rows of the opcode map. -/
theorem verdictOfEveryCode : Obligations.VerdictOfEveryCode := fun c code =>
  ⟨verdict_eq_present_iff c code, verdict_eq_leftOut_iff c code, verdict_eq_reserved_iff c code,
    fun i => by rw [verdict_encode, verdictWhen_eq_present_iff]⟩

/-- Settles O4: each transaction is the encoding of its command. -/
theorem sampleTransactionsDecode : Obligations.SampleTransactionsDecode :=
  ⟨decode_encode (.init _), decode_encode (.read16 _), decode_encode (.readw _), decode_encode (.t2ms _),
    decode_encode (.t2us _), decode_encode (.nowms _), decode_encode (.nowus _)⟩

end Sys2Proof.Encoding
end

section
/-! PROOFS. ISSUE, INIT and the HOST's reads (spec/40_control.md R61 to R67, spec/10_state.md R21). ISSUE of any
transaction is one chain of checks (`issue_of_faultFree`); which first phase ends it is the table of R62
(`firstOf_accept`), and what that phase can write is its frame (`firstOf_frame`). -/

namespace Sys2Proof.Control

open Sys2Proof.Machine Sys2Proof.Safety Sys2Proof.Scope Sys2Proof.Encoding

/-! ### INIT's parameters (R6, R67) -/

theorem pEff_of_supported {c : Config} (h : c.pReq ∈ [1, 8, 64, 256, 1024]) : pEff c = c.pReq :=
  if_pos (by simpa using h)

theorem pEff_of_unsupported {c : Config} (h : c.pReq ∉ [1, 8, 64, 256, 1024]) : pEff c = 1024 :=
  if_neg (by simpa using h)

theorem pEff_supported (c : Config) : pEff c ∈ [1, 8, 64, 256, 1024] := by
  by_cases h : c.pReq ∈ [1, 8, 64, 256, 1024]
  · rwa [pEff_of_supported h]
  · rw [pEff_of_unsupported h]
    decide

/-- Settles O22: the rows of psel, and P_EFF by whether P_REQ is supported. -/
theorem prescalerSelection : Obligations.PrescalerSelection :=
  ⟨rfl, rfl, rfl, rfl, rfl, fun c => ⟨pEff_supported c, pEff_of_supported, pEff_of_unsupported⟩⟩

/-! ### ISSUE (R61, R62) -/

/-- ISSUE in a fault-free state, the checks in the order of R61. -/
theorem issue_of_faultFree {s : State} (hflt : s.flt = 0#3) (c : Byte) (w : Word) (first : State → State) :
    issue c w first s =
      if s.busy then .next (raise .busy s)
      else if verdict s.cfg c ≠ .present then .next (raise .illegalCmd s)
      else if c = 0x01#8 ∧ s.initd = true then .next (raise .reinit s)
      else if c ≠ 0x01#8 ∧ s.initd = false then .next (raise .notInit s)
      else .next (first (accept c w s)) := by
  rw [issue, if_pos ((Frames.faultFree_iff s).2 hflt), issueFault]
  by_cases hbusy : s.busy = true
  · simp [hbusy]
  by_cases hv : verdict s.cfg c = .present
  · by_cases hc : c = 0x01#8
    · subst hc
      cases s.initd <;> simp [hbusy, hv]
    · cases s.initd <;> simp [hbusy, hv, hc]
  · simp [hbusy, hv]

/-- The first phase of a command is its row of the table of R62. -/
theorem firstOf_accept (i : Instr) (s : State) :
    firstOf s i (accept (encode i).code i.operand s) =
      firstPhase (encode i).code i.operand (issued (encode i).code i.operand s) := by
  cases i <;> rfl

/-- The frame of the first phases: PH, A, B and VT. -/
theorem firstOf_frame (s : State) (i : Instr) (t : State) :
    ∃ p a b v, firstOf s i t = { t with ph := p, a := a, b := b, vt := v } := by
  cases i with
  | init | read16 | readw | t2ms | t2us => exact ⟨_, _, _, _, rfl⟩
  | nowms | nowus =>
    change ∃ p a b v, enterNow t = _
    unfold enterNow
    split <;> exact ⟨_, _, _, _, rfl⟩

/-- Settles O5: a command's first phase is that of R62; a reserved code ends at the second check at the latest. -/
theorem issueChecksThenStarts : Obligations.IssueChecksThenStarts := by
  intro c w s hflt
  obtain ⟨i, hi⟩ | hr := encoded_or_reserved ⟨c, w⟩
  · obtain ⟨rfl, rfl⟩ : c = (encode i).code ∧ w = i.operand := by cases i <;> cases hi <;> exact ⟨rfl, rfl⟩
    rw [issueTransaction_of_decode (hi ▸ decode_encode i), exec_eq_issue, issue_of_faultFree hflt, firstOf_accept]
    rfl
  · have hd := decode_of_reserved_code hr
    have hv : verdict s.cfg c ≠ .present := by simp [Invariants.verdict_of_reserved hd]
    rw [issueTransaction_of_reserved hd, issue_of_faultFree hflt, if_pos hv, if_pos hv]
    rfl

/-- Settles O16: ISSUE stutters, raises a fault, or writes the latches and the first phase's own elements. -/
theorem issueFrame : Obligations.IssueFrame := by
  intro i s
  rw [exec_eq_issue]
  obtain ⟨-, h⟩ | ⟨f, -, -, h⟩ | ⟨-, -, h⟩ := issue_cases (rfl : issue _ i.operand (firstOf s i) s = _)
  · exact ⟨_, _, _, _, _, _, _, _, h, fun hf => absurd rfl hf, fun _ => .inl rfl⟩
  · exact ⟨_, _, _, _, _, _, _, _, h, fun _ => ⟨rfl, rfl, rfl, rfl, rfl, rfl, rfl⟩, fun _ => .inl rfl⟩
  · obtain ⟨p, a, b, v, hfirst⟩ := firstOf_frame s i (accept (encode i).code i.operand s)
    exact ⟨_, _, _, _, p, a, b, v, h.trans (congrArg _ hfirst), fun hf => absurd rfl hf,
      fun _ => .inr ⟨rfl, rfl, rfl⟩⟩

/-! ### INIT (R66) -/

/-- With FLT = 0 and no notification to take, the READER's step at INIT_X is the micro-step of R66 (R65, R112). -/
theorem readerStep_of_initX {s : State} (hflt : s.flt = 0#3) (hnotify : notifyEnabled s = false)
    (hp : s.ph = .initX) : readerStep s = phaseInitX s := by
  have henabled : readerEnabled s = true := by simp [readerEnabled, faultFree, hflt, hnotify, hp]
  rw [readerStep, if_pos henabled, microStep, hp]

/-- The writes of INIT_X, with and without the wide extension (R66). -/
theorem phaseInitX_eq (s : State) :
    phaseInitX s = .next (if s.cfg.enWide then
        { s with busy := false, ph := .idle, ps := psel (pEff s.cfg), initd := true, gw := 0#16,
                 ovf := 0#16, pend := false, armed := true }
      else { s with busy := false, ph := .idle, ps := psel (pEff s.cfg), initd := true, gw := 0#16 }) := by
  unfold phaseInitX armOverflow
  split <;> rfl

/-- Settles O9: before INIT no check turns INIT away, and where NOTIFY is not enabled the READER's step is INIT_X. -/
theorem initCompletes : Obligations.InitCompletes := by
  intro w s hflt hbusy hinitd
  have haccepted : issueFault 0x01#8 s = none := (issueFault_eq_none_iff _ _).2 ⟨hbusy, rfl, by simp [hinitd]⟩
  refine ⟨QuietReads.exec_of_accepted hflt haccepted, fun hnotify => runSchedule_cons_eq_some.2 ⟨_, ?_, rfl⟩⟩
  exact (readerStep_of_initX (s := { issued 0x01#8 w s with ph := .initX }) hflt hnotify rfl).trans (phaseInitX_eq _)

/-! ### The HOST's reads (R63, R64) -/

/-- Settles O17: the answers of RDRES in the order of R63. -/
theorem rdresReturnsTheResult : Obligations.RdresReturnsTheResult := by
  intro s hflt
  change hostRdres s = _
  obtain ⟨hfault, -⟩ | ⟨-, hbusy, h⟩ | ⟨-, hbusy, hrv, h⟩ | ⟨-, hbusy, hrv, h⟩ := hostRdres_cases (s := s) rfl
  · rw [(Frames.faultFree_iff s).2 hflt] at hfault
    cases hfault
  · rw [h, if_pos hbusy]
    rfl
  · rw [h, if_neg (by simp [hbusy]), if_pos hrv]
    rfl
  · rw [h, if_neg (by simp [hbusy]), if_neg (by simp [hrv])]

/-- STATUS bit by bit: FLT under a constant 0, then the four flags appended below it (R21). -/
theorem statusView_eq_concat (s : State) :
    statusView s = ((((s.flt.cons false).concat s.cfg.enWide).concat s.rv).concat s.initd).concat s.busy := rfl

/-- The bits of STATUS above its four flags. -/
theorem statusView_getLsbD_add_four (s : State) (k : Nat) :
    (statusView s).getLsbD (k + 4) = (s.flt.cons false).getLsbD k := by
  rw [statusView_eq_concat]
  iterate 4 refine BitVec.getLsbD_concat_succ.trans ?_
  rfl

/-- Settles O18: STATUS is a concatenation, so each bit is read off the part it falls in. -/
theorem rdstatReturnsTheStatus : Obligations.RdstatReturnsTheStatus := by
  intro s
  have hflt : (statusView s).extractLsb' 4 3 = s.flt := by
    ext k hk
    rw [BitVec.getElem_extractLsb', Nat.add_comm, statusView_getLsbD_add_four, BitVec.getLsbD_cons, if_neg hk.ne,
      BitVec.getLsbD_eq_getElem]
  have htop : (statusView s).getLsbD 7 = false := by
    rw [statusView_getLsbD_add_four s 3, BitVec.getLsbD_cons, if_pos rfl]
  refine ⟨rfl, ?_, ?_, ?_, ?_, hflt, htop⟩
  · exact BitVec.getLsbD_concat_zero
  · exact BitVec.getLsbD_concat_succ.trans BitVec.getLsbD_concat_zero
  · exact BitVec.getLsbD_concat_succ.trans (BitVec.getLsbD_concat_succ.trans BitVec.getLsbD_concat_zero)
  · exact BitVec.getLsbD_concat_succ.trans
      (BitVec.getLsbD_concat_succ.trans (BitVec.getLsbD_concat_succ.trans BitVec.getLsbD_concat_zero))

end Sys2Proof.Control
end

section
/-! PROOFS. The READER's steps through READ16 and READWIDE (spec/41_counter_reads.md R70 to R83), each stated with
everything it writes, and the two reads where no other agent moves (R86(b)), which these steps compose. -/

namespace Sys2Proof.CounterReads

open Sys2Proof.Machine Sys2Proof.Safety Sys2Proof.Scope Sys2Proof.QuietReads

/-! ### The micro-steps (R70 to R75, R78 to R82) -/

/-- An enabled READER runs the micro-step of PH (R65). -/
theorem runEvent_reader_of_enabled {s : State} (h : readerEnabled s = true) : runEvent .reader s = microStep s :=
  if_pos h

/-- Settles O23: the micro-step of R70. -/
theorem stepR16H1 : Obligations.StepR16H1 := by
  intro s h hp
  rw [runEvent_reader_of_enabled h, microStep, hp]
  rfl

/-- Settles O24: the micro-step of R71. -/
theorem stepR16L : Obligations.StepR16L := by
  intro s h hp
  rw [runEvent_reader_of_enabled h, microStep, hp]
  rfl

/-- Settles O25: the high byte re-read decides between accepting and going on, the attempts left between retrying and
falling back (R72). -/
theorem stepR16H2 : Obligations.StepR16H2 := by
  intro s h hp
  have hrun : runEvent .reader s = phaseR16H2 s := by rw [runEvent_reader_of_enabled h, microStep, hp]
  rw [hrun]
  refine ⟨fun heq => ?_, fun hne hlt => ?_, fun hne hge => ?_⟩
  · refine (if_pos heq).trans ?_
    rw [recheck16, sampleHwh, highByte, heq]
    rfl
  · exact (if_neg hne).trans (if_pos hlt)
  · exact (if_neg hne).trans (if_neg (Nat.not_lt.2 hge))

/-- Settles O26: the micro-steps of R73 to R75. -/
theorem stepsOfTheRead16Fallback : Obligations.StepsOfTheRead16Fallback := by
  intro s h
  rw [runEvent_reader_of_enabled h, microStep]
  refine ⟨fun hp => ?_, fun hp => ?_, fun hp => ?_⟩ <;> rw [hp] <;> rfl

/-- Settles O27: W_O1 by R78; at W_O2 the OVF re-read decides between accepting and going on, the attempts left between
retrying and falling back (R79). -/
theorem stepsOfTheWideAttempt : Obligations.StepsOfTheWideAttempt := by
  intro s h
  rw [runEvent_reader_of_enabled h, microStep]
  refine ⟨fun hp => ?_, fun hp heq => ?_, fun hp hne hlt => ?_, fun hp hne hge => ?_⟩ <;> rw [hp]
  · rfl
  · exact if_pos heq
  · exact (if_neg hne).trans (if_pos hlt)
  · exact (if_neg hne).trans (if_neg (Nat.not_lt.2 hge))

/-- Settles O28: the micro-steps of R80 to R82; the snapshot's value is its own OVF, corrected by its own PEND. -/
theorem stepsOfTheWideFallback : Obligations.StepsOfTheWideFallback := by
  intro s h
  rw [runEvent_reader_of_enabled h, microStep]
  refine ⟨fun hp => ?_, fun hp v hv => ?_, fun hp => ?_⟩ <;> rw [hp]
  · rfl
  · rw [hv]
    rfl
  · rfl

/-! ### The continuations (R76, R83) -/

/-- A wide block's READ16 under READW, NOWMS or NOWUS goes on with the OVF re-check (R76). -/
theorem ret16_of_wide {s : State} (hcmd : s.cmd = 0x03#8 ∨ s.cmd = 0x06#8 ∨ s.cmd = 0x07#8)
    (hwide : s.cfg.enWide = true) (v : Half) : ret16 v s = .next (goto .wO2 s) := by
  have hread : s.cmd ≠ 0x02#8 := by obtain hc | hc | hc := hcmd <;> rw [hc] <;> decide
  rw [ret16, if_neg hread, if_pos hwide, if_pos hcmd]

/-- A narrow block's READ16 under NOWMS or NOWUS goes on with the conversion (R76). -/
theorem ret16_of_narrow {s : State} (hcmd : s.cmd = 0x06#8 ∨ s.cmd = 0x07#8) (hnarrow : s.cfg.enWide = false)
    (v : Half) : ret16 v s = .next (enterConv (zext v) s) := by
  have hread : s.cmd ≠ 0x02#8 := by obtain hc | hc := hcmd <;> rw [hc] <;> decide
  rw [ret16, if_neg hread, if_neg (by simp [hnarrow]), if_pos hcmd]

/-- READW completes with the value of its READWIDE (R83). -/
theorem retW_of_readw {s : State} (hcmd : s.cmd = 0x03#8) (v : Word) : retW v s = .next (completeWith v s) :=
  if_pos hcmd

/-- NOWMS and NOWUS convert the value of their READWIDE (R83). -/
theorem retW_of_now {s : State} (hcmd : s.cmd = 0x06#8 ∨ s.cmd = 0x07#8) (v : Word) :
    retW v s = .next (enterConv v s) := by
  have hreadw : s.cmd ≠ 0x03#8 := by obtain hc | hc := hcmd <;> rw [hc] <;> decide
  rw [retW, if_neg hreadw, if_pos hcmd]

/-- Settles O29: the rows of the two tables, and what is left of the commands. -/
theorem continuations : Obligations.Continuations := by
  refine ⟨fun v s => ⟨fun hcmd => ret16_of_read16 hcmd v, fun hcmd hwide => ret16_of_wide hcmd hwide v,
    fun hcmd hnarrow => ret16_of_narrow hcmd hnarrow v, fun hother => ?_⟩, fun v s => ⟨fun hcmd => retW_of_readw hcmd v,
    fun hcmd => retW_of_now hcmd v, fun h3 h6 h7 => ?_⟩⟩
  · obtain ⟨h3, hnarrow⟩ | ⟨h2, h3, h6, h7⟩ := hother
    · simp [ret16, h3, hnarrow]
    · simp [ret16, h2, h3, h6, h7]
  · simp [retW, h3, h6, h7]

/-! ### Reads with no other agent's step in between (R86(b)) -/

/-- A READER move that answers a state leaves the rest of the schedule to run there. -/
theorem runSchedule_reader_cons {s t : State} {evs : List Event} {r : Option State}
    (h : runEvent .reader s = .next t) (hrest : runSchedule evs t = r) : runSchedule (.reader :: evs) s = r := by
  rw [runSchedule, h]
  exact hrest

/-- Where FLT = 0 and NOTIFY is not enabled, the READER is enabled in every phase but IDLE (R65, R112). -/
theorem readerEnabled_of_quiet {s : State} (hflt : s.flt = 0#3) (hnotify : notifyEnabled s = false)
    (hidle : s.ph ≠ .idle) : readerEnabled s = true := by
  simp [readerEnabled, faultFree, hflt, hnotify, hidle]

/-- Three READER steps take a READ16 through its first attempt, which accepts HW, into its continuation (R70 to R72). -/
theorem runSchedule_read16Attempt {s t : State} {evs : List Event} {r : Option State} (hflt : s.flt = 0#3)
    (hnotify : notifyEnabled s = false) (hp : s.ph = .r16H1) (ha : s.a = 0)
    (hret : ret16 s.hw { read16Done s with ph := .r16H2 } = .next t) (hrest : runSchedule evs t = r) :
    runSchedule (.reader :: .reader :: .reader :: evs) s = r := by
  have hjoin : s.hw.extractLsb' 8 8 ++ s.hw.extractLsb' 0 8 = s.hw := joinBytes_highByte_lowByte s.hw
  refine runSchedule_reader_cons (stepR16H1 s (readerEnabled_of_quiet hflt hnotify (by simp [hp])) hp) ?_
  refine runSchedule_reader_cons (stepR16L _ (by exact readerEnabled_of_quiet hflt hnotify (by simp)) rfl) ?_
  refine runSchedule_reader_cons
    (((stepR16H2 _ (by exact readerEnabled_of_quiet hflt hnotify (by simp)) rfl).1 rfl).trans ?_) hrest
  rw [← hret]
  simp only [hjoin, ha, bne_self_eq_false, Bool.or_false]
  rfl

/-- Settles O10: the command is accepted, and its READ16 completes with HW at the first attempt. -/
theorem read16Completes : Obligations.Read16Completes := by
  intro w s haccepts
  refine ⟨exec_read16_of_acceptsCommands haccepts w, fun hnotify => ?_⟩
  exact runSchedule_read16Attempt haccepts.1 hnotify rfl rfl (ret16_of_read16 rfl _) rfl

/-- READW is accepted wherever a wide block takes commands (R54, R61). -/
theorem exec_readw_of_acceptsCommands {s : State} (h : acceptsCommands s) (hwide : s.cfg.enWide = true) (w : Word) :
    exec (.readw w) s = .next (enterW (accept 0x03#8 w s)) := by
  obtain ⟨hflt, hbusy, hinitd⟩ := h
  have hpresent : verdict s.cfg 0x03#8 = .present := by simp [verdict, verdictWhen, hwide]
  exact exec_of_accepted hflt ((issueFault_eq_none_iff _ _).2 ⟨hbusy, hpresent, by simp [hinitd, encode]⟩)

/-- Five READER steps take a READWIDE through its first attempt, which accepts `OVF ++ HW`, into its continuation: the
READ16 between two samples of an OVF that stands still (R78, R79). -/
theorem runSchedule_readWideAttempt {s t : State} {evs : List Event} {r : Option State} (hflt : s.flt = 0#3)
    (hnotify : notifyEnabled s = false) (hp : s.ph = .wO1) (hb : s.b = 0) (hwide : s.cfg.enWide = true)
    (hcmd : s.cmd = 0x03#8 ∨ s.cmd = 0x06#8 ∨ s.cmd = 0x07#8)
    (hret : retW (extended s.ovf s.hw) { readWideDone s with ph := .wO2 } = .next t) (hrest : runSchedule evs t = r) :
    runSchedule (.reader :: .reader :: .reader :: .reader :: .reader :: evs) s = r := by
  have hquiet := readerEnabled_of_quiet hflt hnotify (by simp [hp])
  refine runSchedule_reader_cons ((stepsOfTheWideAttempt s hquiet).1 hp) ?_
  refine runSchedule_read16Attempt hflt hnotify rfl rfl (ret16_of_wide (by exact hcmd) (by exact hwide) _) ?_
  refine runSchedule_reader_cons
    (((stepsOfTheWideAttempt _ (by exact readerEnabled_of_quiet hflt hnotify (by simp))).2.1 rfl rfl).trans ?_) hrest
  rw [← hret]
  simp only [goto_b, hb]
  rfl

/-- Settles O11: the command is accepted, and its READWIDE completes with `OVF ++ HW` at the first attempt. -/
theorem readwCompletes : Obligations.ReadwCompletes := by
  intro w s haccepts hwide
  refine ⟨exec_readw_of_acceptsCommands haccepts hwide w, fun hnotify => ?_⟩
  exact runSchedule_readWideAttempt haccepts.1 hnotify rfl rfl hwide (.inl rfl) (retW_of_readw rfl _) rfl

end Sys2Proof.CounterReads
end

section
/-! PROOFS. The overflow invariant `(OVF + PEND) mod 2^16 = GW` (spec/41_counter_reads.md R85) and the soundness of one
READ16 attempt (R84). Both look at a move through what it took there (`Took`): a TICK, a NOTIFY, a READER step, an ISSUE
that was accepted, or nothing but FLT and the reply. -/

namespace Sys2Proof.Overflow

open Sys2Proof.Machine Sys2Proof.Safety Sys2Proof.Scope Sys2Proof.Invariants Sys2Proof.Frames Sys2Proof.CounterReads

/-! ### What a move takes -/

/-- What a move that answers a state took in the state it ran in (R61 to R65, R108, R110). -/
inductive Took (s : State) : Event → State → Prop
  | tick (h : tickEnabled s = true) : Took s .tick (countTick s)
  | notify (h : notifyEnabled s = true) : Took s .notify (takeNotification s)
  | reader {t : State} (h : readerEnabled s = true) (hs : microStep s = .next t) : Took s .reader t
  | accepted (tx : Transaction) (i : Instr) (h : issueFault (encode i).code s = none) :
      Took s (.issue tx) (firstOf s i (accept (encode i).code i.operand s))
  | nothing {ev : Event} (flt : BitVec 3) (reply : Option Reply) (htick : takesTick ev s = false)
      (hnotify : takesNotify ev s = false) (hreader : takesReader ev s = false) :
      Took s ev { s with flt := flt, reply := reply }

theorem countTick_of_maximum {s : State} (h : s.hw = 0xFFFF#16) : countTick s = wrapCounter s :=
  if_pos (by simp [atMaximum, h])

theorem countTick_of_not_maximum {s : State} (h : s.hw ≠ 0xFFFF#16) : countTick s = advanceCounter s :=
  if_neg (by simp [atMaximum, h])

/-- Every move that answers a state took something of this list. -/
theorem took_of_runEvent {ev : Event} {s t : State} (h : runEvent ev s = .next t) : Took s ev t := by
  cases ev with
  | tick =>
    obtain ⟨-, h⟩ | ⟨ht, h⟩ | ⟨ht, hmax, h⟩ | ⟨ht, hmax, h⟩ := tickStep_cases h <;> cases h
    · exact .nothing s.flt s.reply ht rfl rfl
    · exact countTick_of_maximum hmax ▸ .tick ht
    · exact countTick_of_not_maximum hmax ▸ .tick ht
  | notify =>
    obtain ⟨hn, h⟩ | ⟨hn, h⟩ := notifyStep_cases h <;> cases h
    · exact .nothing s.flt s.reply rfl hn rfl
    · exact .notify hn
  | reader =>
    obtain ⟨hr, h⟩ | ⟨hr, h⟩ := readerStep_cases h
    · cases h
      exact .nothing s.flt s.reply rfl rfl hr
    · exact .reader hr h.symm
  | issue tx =>
    obtain rfl | ⟨f, -, rfl⟩ | ⟨i, hi, rfl⟩ := issueTransaction_cases h
    · exact .nothing t.flt t.reply rfl rfl rfl
    · exact .nothing (faultBits f) s.reply rfl rfl rfl
    · exact .accepted tx i hi
  | rdres =>
    obtain ⟨-, h⟩ | ⟨-, -, h⟩ | ⟨-, -, -, h⟩ | ⟨-, -, -, h⟩ := hostRdres_cases h <;> cases h <;>
      exact .nothing _ _ rfl rfl rfl
  | rdstat =>
    cases h
    exact .nothing s.flt _ rfl rfl rfl

/-- A TICK adds 1 to HW, whether it wraps or not (R108). -/
theorem countTick_hw (s : State) : (countTick s).hw = s.hw + 1#16 := by
  by_cases h : s.hw = 0xFFFF#16
  · rw [countTick_of_maximum h, h]
    rfl
  · rw [countTick_of_not_maximum h, advanceCounter_hw]

/-! ### The overflow invariant (R85(a)) -/

/-- INIT arms a wide block (R18, R66). -/
theorem armed_of_wide {s : State} (hinv : BlockInv s) (hinitd : s.initd = true) (hwide : s.cfg.enWide = true) :
    s.armed = true := by
  rw [hinv.armed_eq, hinitd, hwide]
  rfl

/-- The invariant speaks of elements that the READER writes at INIT_X alone. -/
theorem overflowCounted_of_outsideReader {s t : State} (h : OverflowCounted s)
    (hframe : outsideReader t = outsideReader s) : OverflowCounted t :=
  have he : OverflowCounted t = OverflowCounted s := (congrArg OverflowCounted hframe :)
  he.mpr h

/-- A wrap adds 1 to GW, and to OVF + PEND unless it is lost, which HZ_LOST records (R108, R109). -/
theorem countTick_keeps_overflowCounted {s : State} (hinv : BlockInv s) (h : OverflowCounted s) :
    OverflowCounted (countTick s) := by
  by_cases hmax : s.hw = 0xFFFF#16
  · rw [countTick_of_maximum hmax]
    intro (hinitd : s.initd = true) (hwide : s.cfg.enWide = true) hlost
    have harmed := armed_of_wide hinv hinitd hwide
    obtain ⟨hlost, hpend⟩ : s.hzLost = false ∧ s.pend = false := by simpa [lostAfterWrap, harmed] using hlost
    have hcount := h hinitd hwide hlost
    rw [hpend] at hcount
    exact congrArg (· + 1#16) hcount
  · rw [countTick_of_not_maximum hmax]
    exact h

/-- INIT_X sets OVF, PEND and GW to 0 in a wide block (R66). -/
theorem phaseInitX_overflowCounted {s t : State} (h : phaseInitX s = .next t) : OverflowCounted t := by
  rw [Control.phaseInitX_eq] at h
  by_cases hwide : s.cfg.enWide = true
  · rw [if_pos hwide] at h
    cases h
    exact fun _ _ _ => rfl
  · rw [if_neg hwide] at h
    cases h
    exact fun _ hwide' => absurd hwide' hwide

/-- Every move keeps the overflow invariant: NOTIFY moves the pending wrap from PEND into OVF (R110). -/
theorem runEvent_keeps_overflowCounted {ev : Event} {s t : State} (hinv : BlockInv s) (h : OverflowCounted s)
    (hs : runEvent ev s = .next t) : OverflowCounted t := by
  cases took_of_runEvent hs with
  | tick _ => exact countTick_keeps_overflowCounted hinv h
  | notify hn =>
    intro hinitd hwide hlost
    obtain ⟨⟨-, hpend⟩, -⟩ : (s.armed = true ∧ s.pend = true) ∧ s.sup = false := by simpa [notifyEnabled] using hn
    simpa [hpend] using h hinitd hwide hlost
  | reader _ hs =>
    by_cases hinit : s.ph = .initX
    · rw [microStep, hinit] at hs
      exact phaseInitX_overflowCounted hs
    · exact overflowCounted_of_outsideReader h (microStep_outsideReader hinit hs)
  | accepted _ i _ =>
    exact overflowCounted_of_outsideReader (s := accept (encode i).code i.operand s) h (firstOf_outsideReader s i _)
  | nothing _ _ _ _ _ => exact h

/-- Settles O48: a step is a move, every move keeps the invariant, and INIT_X establishes it from any state. -/
theorem overflowInvariantKept : Obligations.OverflowInvariantKept := by
  refine ⟨fun s t hinv h hs => ?_, fun s t hinit hr hs => ?_⟩
  · obtain ⟨ev, agenda, drawn, hs⟩ := exists_runEvent_of_step hs
    exact runEvent_keeps_overflowCounted (s := { s with agenda := agenda, drawn := drawn }) { hinv with } h hs
  · rw [runEvent_reader_of_enabled hr, microStep, hinit] at hs
    exact phaseInitX_overflowCounted hs

/-! ### What the READER sees of the wraps (R85(b), R85(c)) -/

/-- In an armed block an enabled READER outside the suppressed regions sees no pending wrap (R65, R112). -/
theorem pend_of_readerEnabled {s : State} (harmed : s.armed = true) (hr : readerEnabled s = true)
    (hsup : s.sup = false) : s.pend = false := by
  obtain ⟨-, -, hnotify⟩ := (readerEnabled_iff s).1 hr
  simpa [harmed, hsup] using hnotify

/-- With every wrap counted, the snapshot's value is the true tick (R81). -/
theorem snapshotTick_eq_trueTick {s : State} (h : correctedOvf s.ovf s.pend = s.gw) : snapshotTick s = trueTick s :=
  congrArg (extended · s.hw) h

/-- Settles O49: no pending wrap is left at an unsuppressed step, and the snapshot counts the one it may find. -/
theorem readerSeesEveryWrap : Obligations.ReaderSeesEveryWrap := by
  intro s hinv h hlost hinitd hwide hr
  have hcount := h hinitd hwide hlost
  have harmed := armed_of_wide hinv hinitd hwide
  refine ⟨fun hsup => ?_, fun hp => ⟨_, (stepsOfTheWideFallback s hr).2.1 hp _ rfl, ?_⟩⟩
  · have hpend := pend_of_readerEnabled harmed hr hsup
    rw [hpend] at hcount
    exact ⟨hpend, hcount⟩
  · have hsnap : snapshotTick s = s.gw ++ s.hw := snapshotTick_eq_trueTick hcount
    refine ⟨hsnap, ?_⟩
    change (s.hzTornW || (snapshotTick s != s.gw ++ s.hw)) = s.hzTornW
    simp [hsnap]

/-! ### One READ16 attempt (R84) -/

/-- With at most 65280 ticks between two samples of the high byte that agree, the counter did not leave the 256 values
that share it: a wrap would have taken at least 65281 ticks (R84). -/
theorem highByte_between {x y z : Half} {k₁ k₂ : Nat} (hy : y = x + BitVec.ofNat 16 k₁)
    (hz : z = y + BitVec.ofNat 16 k₂) (hk : k₁ + k₂ ≤ 65280) (h : highByte z = highByte x) :
    highByte y = highByte x := by
  have hx := x.isLt
  subst hy hz
  have hnat := congrArg BitVec.toNat h
  apply BitVec.eq_of_toNat_eq
  simp only [highByte_toNat, BitVec.toNat_add, BitVec.toNat_ofNat] at hnat ⊢
  omega

/-- The candidate of such an attempt is the value of HW at the sample of the low byte (R84). -/
theorem joinBytes_of_attempt {x y z : Half} {k₁ k₂ : Nat} (hy : y = x + BitVec.ofNat 16 k₁)
    (hz : z = y + BitVec.ofNat 16 k₂) (hk : k₁ + k₂ ≤ 65280) (h : highByte z = highByte x) :
    joinBytes (highByte x) (lowByte y) = y := by
  rw [← highByte_between hy hz hk h, joinBytes_highByte_lowByte]

/-- The state without the elements that the other agents write while a command is in progress. -/
def outsideOthers (s : State) : State :=
  { s with hw := 0, ovf := 0, pend := false, gw := 0, hzLost := false, flt := 0, reply := none }

theorem countTick_outsideOthers (s : State) : outsideOthers (countTick s) = outsideOthers s := by
  unfold countTick
  split <;> rfl

/-- While a command is in progress, a move of another agent leaves the READER's elements and advances HW by the TICK
step it takes. -/
theorem runEvent_of_busy {ev : Event} {s t : State} (hbusy : s.busy = true) (hev : ev ≠ .reader)
    (h : runEvent ev s = .next t) :
    outsideOthers t = outsideOthers s ∧ t.hw = s.hw + BitVec.ofNat 16 (if takesTick ev s then 1 else 0) := by
  cases took_of_runEvent h with
  | tick ht =>
    have htakes : takesTick .tick s = true := ht
    exact ⟨countTick_outsideOthers s, by rw [countTick_hw, htakes]; rfl⟩
  | notify _ => exact ⟨rfl, (BitVec.add_zero _).symm⟩
  | reader _ _ => exact absurd rfl hev
  | accepted tx i hi =>
    obtain ⟨hidle, -⟩ := (issueFault_eq_none_iff _ _).1 hi
    exact absurd (hbusy.symm.trans hidle) Bool.noConfusion
  | nothing _ _ ht _ _ => exact ⟨rfl, by rw [ht]; exact (BitVec.add_zero _).symm⟩

/-- While a command is in progress, a schedule without READER moves leaves the READER's elements and advances HW by its
TICK steps. -/
theorem runSchedule_of_busy {evs : List Event} {s t : State} (hbusy : s.busy = true) (hevs : ∀ ev ∈ evs, ev ≠ .reader)
    (h : runSchedule evs s = some t) :
    outsideOthers t = outsideOthers s ∧ t.hw = s.hw + BitVec.ofNat 16 (ticksTaken evs s) := by
  induction evs generalizing s with
  | nil =>
    cases h
    exact ⟨rfl, (BitVec.add_zero _).symm⟩
  | cons ev evs ih =>
    obtain ⟨u, hu, h⟩ := runSchedule_cons_eq_some.1 h
    obtain ⟨hev, hevs⟩ := List.forall_mem_cons.1 hevs
    obtain ⟨hframe, hhw⟩ := runEvent_of_busy hbusy hev hu
    have hbusy' : u.busy = s.busy := (congrArg State.busy hframe :)
    obtain ⟨hrest, hhw'⟩ := ih (hbusy'.trans hbusy) hevs h
    refine ⟨hrest.trans hframe, ?_⟩
    rw [hhw', hhw, ticksTaken, ticksTaken, countAlong_cons_of_next hu, BitVec.ofNat_add, BitVec.add_assoc]

/-- The continuation of READ16 leaves what was read, and what it is judged by. -/
theorem ret16_keeps_read {v : Half} {s t : State} (h : ret16 v s = .next t) :
    t.v16 = s.v16 ∧ t.gt16 = s.gt16 ∧ t.gtw = s.gtw ∧ t.hzTorn16 = s.hzTorn16 := by
  obtain ⟨-, h⟩ | ⟨-, -, h⟩ | ⟨-, -, h⟩ | ⟨-, h⟩ := ret16_cases h <;> cases h <;> exact ⟨rfl, rfl, rfl, rfl⟩

/-- Settles O50: the other agents leave H1, LO and GT16 as they were sampled, and the two samples of the high byte agree
with at most 65280 ticks between them. -/
theorem read16AttemptSound : Obligations.Read16AttemptSound := by
  intro s s₀ s₁ s₂ u t evs₁ evs₂ hbusy hp hr hs₀ hevs hrun₁ hr₁ hs₂ hrun₂ hr₂ ht hticks hsample
  obtain ⟨hevs₁, hevs₂⟩ := List.forall_mem_append.1 hevs
  rw [stepR16H1 s hr hp] at hs₀
  cases hs₀
  obtain ⟨hframe₁, hhw₁⟩ := runSchedule_of_busy (by exact hbusy) hevs₁ hrun₁
  have hp₁ : s₁.ph = .r16L := (congrArg State.ph hframe₁ :)
  have hbusy₁ : s₁.busy = true := (congrArg State.busy hframe₁ :).trans hbusy
  rw [stepR16L s₁ hr₁ hp₁] at hs₂
  cases hs₂
  obtain ⟨hframe₂, hhw₂⟩ := runSchedule_of_busy (by exact hbusy₁) hevs₂ hrun₂
  have hp₂ : u.ph = .r16H2 := (congrArg State.ph hframe₂ :)
  have hlo : u.lo = lowByte s₁.hw := (congrArg State.lo hframe₂ :)
  have hgt16 : u.gt16 = s₁.hw := (congrArg State.gt16 hframe₂ :)
  have hh1 : u.h1 = highByte s.hw := (congrArg State.h1 hframe₂ :).trans (congrArg State.h1 hframe₁ :)
  have htorn : u.hzTorn16 = s.hzTorn16 :=
    (congrArg State.hzTorn16 hframe₂ :).trans (congrArg State.hzTorn16 hframe₁ :)
  have hread : u.h1 ++ u.lo = s₁.hw := by
    rw [hh1, hlo]
    exact joinBytes_of_attempt hhw₁ hhw₂ hticks (hsample.trans hh1)
  rw [(stepR16H2 u hr₂ hp₂).1 hsample] at ht
  obtain ⟨hv16, -, -, htorn'⟩ := ret16_keeps_read ht
  refine ⟨hread, hgt16, hv16.trans hread, htorn'.trans ?_⟩
  change (u.hzTorn16 || (u.h1 ++ u.lo != u.gt16)) = s.hzTorn16
  simp [hread, hgt16, htorn]

end Sys2Proof.Overflow
end

section
/-! PROOFS. What a READWIDE returns under the hazard premises (spec/41_counter_reads.md R84 to R86, R131 to R134). Along
a run that keeps the premises every wrap is counted (`Counting`), a READ16 holds what its samples were (`sampled16`),
and a READWIDE holds how far OVF has moved since it was sampled (`sampledWide`); together (`SoundRead`) they make the value
returned the true tick latched in GTW. -/

namespace Sys2Proof.SoundReads

open Sys2Proof.Machine Sys2Proof.Safety Sys2Proof.Scope Sys2Proof.Invariants Sys2Proof.Frames Sys2Proof.Overflow

/-! ### The counts of the hazard premises, by what a move takes (R131 to R133) -/

theorem advanceMonitor_tick {s : State} (h : tickEnabled s = true) (m : Monitor) :
    advanceMonitor .tick s m =
      ⟨m.attemptTicks + 1, m.attemptNotifies, if s.pend then m.pendingTicks + 1 else 0⟩ := by
  simp [advanceMonitor, takesTick, takesNotify, takesReader, h]

theorem advanceMonitor_notify {s : State} (h : notifyEnabled s = true) (m : Monitor) :
    advanceMonitor .notify s m = ⟨m.attemptTicks, m.attemptNotifies + 1, m.pendingTicks⟩ := by
  simp [advanceMonitor, takesTick, takesNotify, takesReader, h]

theorem advanceMonitor_reader {s : State} (h : readerEnabled s = true) (m : Monitor) :
    advanceMonitor .reader s m =
      ⟨if s.ph = .r16H1 then 0 else m.attemptTicks, if s.ph = .wO1 then 0 else m.attemptNotifies, m.pendingTicks⟩ := by
  simp [advanceMonitor, takesTick, takesNotify, takesReader, h]

theorem advanceMonitor_nothing {ev : Event} {s : State} (htick : takesTick ev s = false)
    (hnotify : takesNotify ev s = false) (hreader : takesReader ev s = false) (m : Monitor) :
    advanceMonitor ev s m = m := by
  simp [advanceMonitor, htick, hnotify, hreader]

/-- HZ-3 at a TICK (R132). -/
theorem pendingTicks_lt {s : State} {m : Monitor} (h : hazardsKeptAt .tick s m = true) (ht : tickEnabled s = true)
    (harmed : s.armed = true) (hpend : s.pend = true) : m.pendingTicks + 1 < 65536 := by
  simpa [hazardsKeptAt, takesTick, takesReader, ht, harmed, hpend] using h

/-- HZ-2 at R16_H2 (R131). -/
theorem attemptTicks_le {s : State} {m : Monitor} (h : hazardsKeptAt .reader s m = true)
    (hr : readerEnabled s = true) (hp : s.ph = .r16H2) : m.attemptTicks ≤ 65280 := by
  simpa [hazardsKeptAt, takesTick, takesReader, hr, hp] using h

/-- HZ-4 at W_O2 (R133). -/
theorem attemptNotifies_lt {s : State} {m : Monitor} (h : hazardsKeptAt .reader s m = true)
    (hr : readerEnabled s = true) (hp : s.ph = .wO2) : m.attemptNotifies < 65536 := by
  simpa [hazardsKeptAt, takesTick, takesReader, hr, hp] using h

/-! ### Every wrap is counted (R85, R132) -/

/-- After INIT no wrap has been lost, and HW has counted the ticks since the wrap that is pending. -/
structure Counting (s : State) (m : Monitor) : Prop where
  inv : BlockInv s
  initd : s.initd = true
  counted : OverflowCounted s
  lost : s.hzLost = false
  pending : s.armed = true → s.pend = true → s.hw.toNat = m.pendingTicks

section Counting

variable {s t : State} {m : Monitor}

/-- A TICK keeps the count: with a wrap pending, fewer than 65536 ticks since it leave HW below its maximum (R132). -/
theorem Counting.tick_lost_pending (c : Counting s m) (hz : hazardsKeptAt .tick s m = true)
    (ht : tickEnabled s = true) : (countTick s).hzLost = false ∧ ((countTick s).armed = true →
      (countTick s).pend = true → (countTick s).hw.toNat = if s.pend then m.pendingTicks + 1 else 0) := by
  by_cases hmax : s.hw = 0xFFFF#16
  · have hpend : s.armed = true → s.pend = false := fun harmed => by
      by_contra hpend
      have hlt := pendingTicks_lt hz ht harmed (by simpa using hpend)
      rw [← c.pending harmed (by simpa using hpend), hmax] at hlt
      exact absurd hlt (by decide)
    rw [countTick_of_maximum hmax]
    refine ⟨?_, fun harmed _ => by rw [hpend harmed]; rfl⟩
    cases harmed : s.armed
    · simp [lostAfterWrap, c.lost, harmed]
    · simp [lostAfterWrap, c.lost, hpend harmed]
  · rw [countTick_of_not_maximum hmax]
    refine ⟨c.lost, fun harmed hpend => ?_⟩
    have hpend : s.pend = true := hpend
    have hlt := pendingTicks_lt hz ht harmed hpend
    have hcount := c.pending harmed hpend
    rw [if_pos hpend, advanceCounter_hw, BitVec.toNat_add, BitVec.toNat_ofNat, hcount]
    omega

/-- Every move that keeps the premises keeps the count. -/
theorem Counting.runEvent {ev : Event} (c : Counting s m) (hz : hazardsKeptAt ev s m = true)
    (h : runEvent ev s = .next t) : Counting t (advanceMonitor ev s m) := by
  have hinit := ph_ne_initX c.inv c.initd
  have hrest (hp : t.hzLost = false ∧
      (t.armed = true → t.pend = true → t.hw.toNat = (advanceMonitor ev s m).pendingTicks)) :
      Counting t (advanceMonitor ev s m) :=
    ⟨runEvent_keeps_inv c.inv h, (runEvent_trueTick hinit h).1.trans c.initd,
      runEvent_keeps_overflowCounted c.inv c.counted h, hp.1, hp.2⟩
  apply hrest
  cases took_of_runEvent h with
  | tick ht =>
    rw [advanceMonitor_tick ht]
    exact c.tick_lost_pending hz ht
  | notify hn =>
    exact ⟨c.lost, fun _ hpend => nomatch hpend⟩
  | reader hr hs =>
    rw [advanceMonitor_reader hr]
    have hframe := microStep_outsideReader hinit hs
    have hlost : t.hzLost = s.hzLost := (congrArg State.hzLost hframe :)
    have harmed : t.armed = s.armed := (congrArg State.armed hframe :)
    have hpend : t.pend = s.pend := (congrArg State.pend hframe :)
    have hhw : t.hw = s.hw := (congrArg State.hw hframe :)
    rw [hlost, harmed, hpend, hhw]
    exact ⟨c.lost, c.pending⟩
  | accepted tx i _ =>
    obtain ⟨p, a, b, v, hfirst⟩ := Control.firstOf_frame s i (accept (encode i).code i.operand s)
    rw [hfirst]
    exact ⟨c.lost, c.pending⟩
  | nothing _ _ ht hn hr =>
    rw [advanceMonitor_nothing ht hn hr]
    exact ⟨c.lost, c.pending⟩

end Counting

/-! ### What a READ16 holds of its samples (R70 to R75, R84) -/

/-- At R16_L the high byte was sampled `k` ticks ago; at R16_H2 both bytes were, within `k` ticks; afterwards V16 is the
truth. -/
def sampled16 (k : Nat) (s : State) : Prop :=
  match s.ph with
  | .r16L => ∃ x, s.h1 = highByte x ∧ s.hw = x + BitVec.ofNat 16 k
  | .r16H2 => ∃ x k₁ k₂, k₁ + k₂ ≤ k ∧ s.h1 = highByte x ∧ s.lo = lowByte s.gt16 ∧
      s.gt16 = x + BitVec.ofNat 16 k₁ ∧ s.hw = s.gt16 + BitVec.ofNat 16 k₂
  | .r16Rst | .wO2 => s.v16 = s.gt16
  | .idle | .initX | .r16H1 | .r16Sup | .r16Smp | .wO1 | .wSup | .wSnp | .wRst | .conv => True

section Sampled16

variable {k : Nat} {s t : State}

/-- The other agents' moves, which may advance HW by `d` ticks, leave what a READ16 holds. -/
theorem sampled16_of_others {d : Nat} (h : sampled16 k s) (hframe : outsideOthers t = outsideOthers s)
    (hhw : t.hw = s.hw + BitVec.ofNat 16 d) : sampled16 (k + d) t := by
  have hph : t.ph = s.ph := (congrArg State.ph hframe :)
  have hh1 : t.h1 = s.h1 := (congrArg State.h1 hframe :)
  have hlo : t.lo = s.lo := (congrArg State.lo hframe :)
  have hv16 : t.v16 = s.v16 := (congrArg State.v16 hframe :)
  have hgt16 : t.gt16 = s.gt16 := (congrArg State.gt16 hframe :)
  unfold sampled16 at h ⊢
  rw [hph, hh1, hlo, hv16, hgt16, hhw]
  cases hp : s.ph with rw [hp] at h
  | r16L =>
    obtain ⟨x, hx, hhw⟩ := h
    exact ⟨x, hx, by rw [hhw, BitVec.ofNat_add, BitVec.add_assoc]⟩
  | r16H2 =>
    obtain ⟨x, k₁, k₂, hk, hx, hl, hg, hhw⟩ := h
    exact ⟨x, k₁, k₂ + d, by omega, hx, hl, hg, by rw [hhw, BitVec.ofNat_add, BitVec.add_assoc]⟩
  | r16Rst | wO2 => exact h
  | idle | initX | r16H1 | r16Sup | r16Smp | wO1 | wSup | wSnp | wRst | conv => trivial

/-- A READ16 that holds the truth returns it (R76). -/
theorem ret16_sampled16 {v : Half} (hv : s.v16 = s.gt16) (h : ret16 v s = .next t) : sampled16 k t := by
  obtain ⟨-, h⟩ | ⟨-, -, h⟩ | ⟨-, -, h⟩ | ⟨-, h⟩ := ret16_cases h <;> cases h
  · trivial
  · exact hv
  · trivial

theorem retW_sampled16 {v : Word} (h : retW v s = .next t) : sampled16 k t := by
  obtain ⟨-, h⟩ | ⟨-, h⟩ | ⟨-, h⟩ := retW_cases h <;> cases h <;> trivial

/-- The candidate that R16_H2 accepts within 65280 ticks of the first sample is the truth (R72, R84). -/
theorem joinBytes_eq_gt16 (h : sampled16 k s) (hp : s.ph = .r16H2) (hk : k ≤ 65280) (hagree : sampleHwh s = s.h1) :
    joinBytes s.h1 s.lo = s.gt16 := by
  unfold sampled16 at h
  rw [hp] at h
  obtain ⟨x, k₁, k₂, hle, hx, hl, hg, hhw⟩ := h
  rw [hl, hx]
  exact joinBytes_of_attempt hg hhw (hle.trans hk) (hagree.trans hx)

/-- A READER step keeps what a READ16 holds; the ticks are counted anew from R16_H1. -/
theorem microStep_keeps_sampled16 (h : sampled16 k s) (hk : s.ph = .r16H2 → k ≤ 65280) (hs : microStep s = .next t) :
    sampled16 (if s.ph = .r16H1 then 0 else k) t := by
  have h₀ := h
  unfold sampled16 at h
  unfold microStep at hs
  cases hp : s.ph with rw [hp] at h hs
  | r16H1 =>
    cases hs
    exact ⟨s.hw, rfl, (BitVec.add_zero _).symm⟩
  | r16L =>
    cases hs
    obtain ⟨x, hx, hhw⟩ := h
    exact ⟨x, k, 0, le_rfl, hx, rfl, hhw, (BitVec.add_zero _).symm⟩
  | r16H2 =>
    obtain ⟨hagree, hs⟩ | ⟨-, -, hs⟩ | ⟨-, -, hs⟩ := phaseR16H2_cases hs
    · exact ret16_sampled16 (joinBytes_eq_gt16 h₀ hp (hk hp) hagree) hs.symm
    · cases hs; trivial
    · cases hs; trivial
  | r16Smp => cases hs; rfl
  | r16Rst => exact ret16_sampled16 (s := { s with sup := false }) h hs
  | wO2 =>
    obtain ⟨-, hs⟩ | ⟨-, -, hs⟩ | ⟨-, -, hs⟩ := phaseWO2_cases hs
    · exact retW_sampled16 hs.symm
    · cases hs; trivial
    · cases hs; trivial
  | wRst => exact retW_sampled16 hs
  | idle => cases hs; exact h₀
  | initX | r16Sup | wO1 | wSup | wSnp | conv => cases hs; trivial

end Sampled16

/-! ### What a READWIDE holds of its samples (R78 to R83, R85) -/

/-- The truth latched for the low half is that of an OVF at most `n` notifications, and one pending wrap, past O1. -/
def latchedWithin (n : Nat) (s : State) : Prop :=
  ∃ j ≤ n + s.pend.toNat, s.gtw = extended (s.o1 + BitVec.ofNat 16 j) s.gt16

/-- During an attempt OVF has moved by the `n` notifications since O1; once the low half is sampled, so has the
truth, at most; what the READWIDE returned is the truth. -/
def sampledWide (n : Nat) (s : State) : Prop :=
  match s.ph with
  | .r16H1 | .r16L | .r16Sup | .r16Smp => s.ovf = s.o1 + BitVec.ofNat 16 n
  | .r16H2 | .r16Rst | .wO2 => s.ovf = s.o1 + BitVec.ofNat 16 n ∧ latchedWithin n s
  | .wRst | .conv => s.vt = s.gtw
  | .idle => s.cmd = 0x03#8 → s.res = s.gtw
  | .initX | .wO1 | .wSup | .wSnp => True

section SampledWide

variable {n : Nat} {s t : State} {m : Monitor}

/-- The other agents' moves, which may add `d` notifications and a pending wrap, leave what a READWIDE holds. -/
theorem sampledWide_of_others {d : Nat} (h : sampledWide n s) (hframe : outsideOthers t = outsideOthers s)
    (hovf : t.ovf = s.ovf + BitVec.ofNat 16 d) (hpend : s.pend.toNat ≤ d + t.pend.toNat) :
    sampledWide (n + d) t := by
  have hph : t.ph = s.ph := (congrArg State.ph hframe :)
  have ho1 : t.o1 = s.o1 := (congrArg State.o1 hframe :)
  have hgt16 : t.gt16 = s.gt16 := (congrArg State.gt16 hframe :)
  have hgtw : t.gtw = s.gtw := (congrArg State.gtw hframe :)
  have hvt : t.vt = s.vt := (congrArg State.vt hframe :)
  have hcmd : t.cmd = s.cmd := (congrArg State.cmd hframe :)
  have hres : t.res = s.res := (congrArg State.res hframe :)
  have hmoved (ho : s.ovf = s.o1 + BitVec.ofNat 16 n) : s.ovf + BitVec.ofNat 16 d = s.o1 + BitVec.ofNat 16 (n + d) := by
    rw [ho, BitVec.ofNat_add, BitVec.add_assoc]
  unfold sampledWide latchedWithin at h ⊢
  rw [hph, ho1, hgt16, hgtw, hvt, hcmd, hres, hovf]
  cases hp : s.ph with rw [hp] at h
  | r16H1 | r16L | r16Sup | r16Smp => exact hmoved h
  | r16H2 | r16Rst | wO2 =>
    obtain ⟨ho, j, hj, hg⟩ := h
    exact ⟨hmoved ho, j, by omega, hg⟩
  | idle | wRst | conv => exact h
  | initX | wO1 | wSup | wSnp => trivial

/-- The commands that widen are those of a wide block (R54, R62). -/
theorem enWide_of_readsWide (hinv : BlockInv s) (hidle : s.ph ≠ .idle) (hw : readsWide s.cfg s.cmd = true) :
    s.cfg.enWide = true := by
  obtain hcmd | ⟨hwide, -⟩ := (readsWide_iff _ _).1 hw
  · have hpresent := hinv.cmd_present hidle
    rw [hcmd] at hpresent
    exact (Encoding.verdictWhen_eq_present_iff _).1 hpresent
  · exact hwide

/-- READW does not convert (R83, R96). -/
theorem cmd_ne_readw_of_conv (hinv : BlockInv s) (hp : s.ph = .conv) : s.cmd ≠ 0x03#8 := by
  intro hcmd
  have hphase := hinv.cmd_phase (by simp [hp])
  rw [hp, hcmd] at hphase
  cases hphase

/-- Under a command that widens, READ16 returns into the OVF re-check (R76). -/
theorem ret16_sampledWide {v : Half} (hw : readsWide s.cfg s.cmd = true)
    (hs : s.ovf = s.o1 + BitVec.ofNat 16 n ∧ latchedWithin n s) (h : ret16 v s = .next t) : sampledWide n t := by
  have hwide := (readsWide_iff _ _).1 hw
  obtain ⟨hcmd, -⟩ | ⟨-, -, h⟩ | ⟨hnarrow, hcmd, -⟩ | ⟨-, h⟩ := ret16_cases h
  · simp [hcmd] at hwide
  · cases h; exact hs
  · obtain hcmd | hcmd := hcmd <;> simp [hcmd, hnarrow] at hwide
  · cases h

/-- A READWIDE that hands over the truth returns it (R83). -/
theorem retW_sampledWide {v : Word} (hv : v = s.gtw) (h : retW v s = .next t) : sampledWide n t := by
  obtain ⟨-, h⟩ | ⟨-, h⟩ | ⟨-, h⟩ := retW_cases h <;> cases h
  · exact fun _ => hv
  · exact hv

/-- Fewer than 65536 notifications that leave OVF where it was are none (R133). -/
theorem eq_zero_of_eq_add_ofNat {o : Half} (hn : n < 65536) (h : o = o + BitVec.ofNat 16 n) : n = 0 := by
  have ho := o.isLt
  have hnat := congrArg BitVec.toNat h
  rw [BitVec.toNat_add, BitVec.toNat_ofNat] at hnat
  omega

/-- The value W_O2 accepts is the truth: OVF back at O1 means no notification in between, and none is pending (R79,
R85). -/
theorem extended_eq_gtw (hn : n < 65536) (hagree : s.ovf = s.o1) (hpend : s.pend = false) (hv16 : s.v16 = s.gt16)
    (h : s.ovf = s.o1 + BitVec.ofNat 16 n ∧ latchedWithin n s) : extended s.o1 s.v16 = s.gtw := by
  obtain ⟨hovf, j, hj, hg⟩ := h
  have hzero := eq_zero_of_eq_add_ofNat hn (hagree.symm.trans hovf)
  have hj : j = 0 := by simpa [hzero, hpend] using hj
  rw [hg, hj, hv16, BitVec.add_zero]

/-- A READER step keeps what a READWIDE holds; the notifications are counted anew from W_O1. -/
theorem microStep_keeps_sampledWide (c : Counting s m) (hr : readerEnabled s = true)
    (hw : readsWide s.cfg s.cmd = true) (h16 : sampled16 m.attemptTicks s) (h : sampledWide m.attemptNotifies s)
    (hn : s.ph = .wO2 → m.attemptNotifies < 65536) (hs : microStep s = .next t) :
    sampledWide (if s.ph = .wO1 then 0 else m.attemptNotifies) t := by
  obtain ⟨-, hidle, -⟩ := (readerEnabled_iff s).1 hr
  have hwide := enWide_of_readsWide c.inv hidle hw
  have hcount := c.counted c.initd hwide c.lost
  have hseen := (readerSeesEveryWrap s c.inv c.counted c.lost c.initd hwide hr).1
  have hsup := c.inv.sup_eq
  unfold sampledWide at h
  unfold sampled16 at h16
  unfold microStep at hs
  cases hp : s.ph with rw [hp] at h h16 hs hsup
  | idle => exact absurd hp hidle
  | initX => exact absurd hp (ph_ne_initX c.inv c.initd)
  | r16H1 => cases hs; exact h
  | r16L =>
    cases hs
    obtain ⟨-, hovf⟩ := hseen hsup
    exact ⟨h, m.attemptNotifies, Nat.le_add_right _ _, congrArg (extended · s.hw) (hovf.symm.trans h)⟩
  | r16H2 =>
    obtain ⟨-, hs⟩ | ⟨-, -, hs⟩ | ⟨-, -, hs⟩ := phaseR16H2_cases hs
    · exact ret16_sampledWide (s := accept16 _ (recheck16 s)) hw h hs.symm
    · cases hs; exact h.1
    · cases hs; exact h.1
  | r16Sup => cases hs; exact h
  | r16Smp =>
    cases hs
    have hgw : s.gw = s.o1 + BitVec.ofNat 16 (m.attemptNotifies + s.pend.toNat) := by
      rw [← hcount, h, BitVec.ofNat_add, ← BitVec.add_assoc]
      cases s.pend
      · exact (BitVec.add_zero _).symm
      · rfl
    exact ⟨h, _, le_rfl, congrArg (extended · s.hw) hgw⟩
  | r16Rst => exact ret16_sampledWide (s := { s with sup := false }) hw h hs
  | wO1 => cases hs; exact (BitVec.add_zero _).symm
  | wO2 =>
    obtain ⟨hagree, hs⟩ | ⟨-, -, hs⟩ | ⟨-, -, hs⟩ := phaseWO2_cases hs
    · have hv := extended_eq_gtw (hn hp) hagree (hseen hsup).1 h16 h
      exact retW_sampledWide (s := acceptW _ (recheckW s)) hv hs.symm
    · cases hs; trivial
    · cases hs; trivial
  | wSup => cases hs; trivial
  | wSnp => cases hs; exact snapshotTick_eq_trueTick hcount
  | wRst => exact retW_sampledWide (s := { s with sup := false }) h hs
  | conv =>
    cases hs
    exact fun (hcmd : s.cmd = 0x03#8) => absurd hcmd (cmd_ne_readw_of_conv c.inv hp)

end SampledWide

/-! ### The two together -/

/-- What a run that keeps the hazard premises keeps. -/
structure SoundRead (s : State) (m : Monitor) : Prop extends Counting s m where
  read16 : sampled16 m.attemptTicks s
  readWide : readsWide s.cfg s.cmd = true → sampledWide m.attemptNotifies s

/-- An accepted command has sampled nothing yet (R62). -/
theorem firstOf_accept_sampled (k n : Nat) (s : State) (i : Instr) :
    sampled16 k (firstOf s i (accept (encode i).code i.operand s)) ∧
    (readsWide s.cfg (encode i).code = true → sampledWide n (firstOf s i (accept (encode i).code i.operand s))) := by
  cases i with
  | nowms w | nowus w =>
    change sampled16 k (enterNow _) ∧ (_ → sampledWide n (enterNow _))
    unfold enterNow
    split
    next => exact ⟨trivial, fun _ => trivial⟩
    next hnarrow =>
      refine ⟨trivial, fun hw => absurd ?_ hnarrow⟩
      simpa [readsWide, encode] using hw
  | readw w => exact ⟨trivial, fun _ => trivial⟩
  | init w | read16 w | t2ms w | t2us w => exact ⟨trivial, fun hw => by simp [readsWide, encode] at hw⟩

section SoundRead

variable {s t : State} {m : Monitor}

/-- A TICK leaves OVF, and a pending wrap pending. -/
theorem countTick_ovf_pend (s : State) :
    (countTick s).ovf = s.ovf ∧ s.pend.toNat ≤ (countTick s).pend.toNat := by
  unfold countTick
  split
  · exact ⟨rfl, s.pend.toNat_le⟩
  · exact ⟨rfl, le_rfl⟩

/-- Every move that keeps the premises keeps a sound read. -/
theorem SoundRead.runEvent {ev : Event} (r : SoundRead s m) (hz : hazardsKeptAt ev s m = true)
    (h : runEvent ev s = .next t) : SoundRead t (advanceMonitor ev s m) := by
  have hcount := r.toCounting.runEvent hz h
  suffices hsampled : sampled16 (advanceMonitor ev s m).attemptTicks t ∧
      (readsWide t.cfg t.cmd = true → sampledWide (advanceMonitor ev s m).attemptNotifies t) from
    { hcount with read16 := hsampled.1, readWide := hsampled.2 }
  cases took_of_runEvent h with
  | tick ht =>
    rw [advanceMonitor_tick ht]
    have hframe := countTick_outsideOthers s
    have hcfg : (countTick s).cfg = s.cfg := (congrArg State.cfg hframe :)
    have hcmd : (countTick s).cmd = s.cmd := (congrArg State.cmd hframe :)
    obtain ⟨hovf, hpend⟩ := countTick_ovf_pend s
    rw [hcfg, hcmd]
    exact ⟨sampled16_of_others (d := 1) r.read16 hframe (countTick_hw s),
      fun hw => sampledWide_of_others (d := 0) (r.readWide hw) hframe (hovf.trans (BitVec.add_zero _).symm) (by omega)⟩
  | notify hn =>
    rw [advanceMonitor_notify hn]
    have hpend : s.pend.toNat ≤ 1 + 0 := s.pend.toNat_le
    exact ⟨sampled16_of_others (d := 0) r.read16 rfl (BitVec.add_zero _).symm,
      fun hw => sampledWide_of_others (d := 1) (r.readWide hw) rfl rfl hpend⟩
  | reader hr hs =>
    rw [advanceMonitor_reader hr]
    have hframe := microStep_outsideReader (ph_ne_initX r.inv r.initd) hs
    have hcfg : t.cfg = s.cfg := (congrArg State.cfg hframe :)
    have hcmd : t.cmd = s.cmd := (congrArg State.cmd hframe :)
    rw [hcfg, hcmd]
    exact ⟨microStep_keeps_sampled16 r.read16 (attemptTicks_le hz hr) hs,
      fun hw => microStep_keeps_sampledWide r.toCounting hr hw r.read16 (r.readWide hw) (attemptNotifies_lt hz hr) hs⟩
  | accepted tx i _ =>
    obtain ⟨h16, hwide⟩ := firstOf_accept_sampled m.attemptTicks m.attemptNotifies s i
    have hcmd : (firstOf s i (accept (encode i).code i.operand s)).cmd = (encode i).code :=
      (congrArg State.cmd (firstOf_outsideReader s i _) :)
    rw [runEvent_keeps_cfg h, hcmd]
    exact ⟨h16, hwide⟩
  | nothing _ _ ht hn hr =>
    rw [advanceMonitor_nothing ht hn hr]
    exact ⟨sampled16_of_others (d := 0) r.read16 rfl (BitVec.add_zero _).symm,
      fun hw => sampledWide_of_others (d := 0) (r.readWide hw) rfl (BitVec.add_zero _).symm (by simp)⟩

/-- A clean block has read nothing, and CMD is INIT's, which reads nothing either (R140). -/
theorem soundRead_of_clean (h : Clean s) : SoundRead s Monitor.start where
  inv := h.inv
  initd := h.initd
  lost := h.hzLost
  counted := by
    intro _ hwide _
    obtain ⟨-, hpend, hovf, hgw⟩ := h.wide hwide
    rw [hpend, hovf, hgw]
    rfl
  pending := by
    intro harmed hpend
    have hwide : s.cfg.enWide = true := by simpa [h.inv.armed_eq, h.initd] using harmed
    rw [(h.wide hwide).2.1] at hpend
    cases hpend
  read16 := by
    rw [sampled16, h.ph]
    trivial
  readWide := by simp [readsWide, h.cmd]

/-- Along a schedule that keeps the premises, reads are sound at every point, and the rest of it keeps them too. -/
theorem SoundRead.runSchedule {evs rest : List Event} (r : SoundRead s m) (hz : hazardsKept (evs ++ rest) s m = true)
    (h : runSchedule evs s = some t) : ∃ m', SoundRead t m' ∧ hazardsKept rest t m' = true := by
  induction evs generalizing s m with
  | nil =>
    cases h
    exact ⟨m, r, hz⟩
  | cons ev evs ih =>
    obtain ⟨u, hu, h⟩ := runSchedule_cons_eq_some.1 h
    simp only [List.cons_append, hazardsKept, hu, Bool.and_eq_true] at hz
    exact ih (r.runEvent hz.1 hu) hz.2 h

/-- Where no command is in progress the READER is idle (R22). -/
theorem idle_of_not_busy (hinv : BlockInv s) (hbusy : s.busy = false) : s.ph = .idle := by
  simpa [hbusy] using hinv.busy_iff

/-- RES of a completed READW is the true tick latched in GTW (R85, R86). -/
theorem SoundRead.res_of_readw (r : SoundRead s m) (hcmd : s.cmd = 0x03#8) (hbusy : s.busy = false) :
    s.res = s.gtw := by
  have h := r.readWide (by simp [readsWide, hcmd])
  rw [sampledWide, idle_of_not_busy r.inv hbusy] at h
  exact h hcmd

end SoundRead

end Sys2Proof.SoundReads
end

section
/-! PROOFS. Widened reads never decrease (spec/41_counter_reads.md R86(c), R134): GTW only ever takes the true tick of
the moment, the true tick never decreases without a wraparound, and a completed READW returns GTW. -/

namespace Sys2Proof.MonotoneReads

open Sys2Proof.Machine Sys2Proof.Safety Sys2Proof.Scope Sys2Proof.Invariants Sys2Proof.Frames Sys2Proof.Overflow
open Sys2Proof.SoundReads

/-! ### The latch of the true tick (R71, R74, R81) -/

/-- The command in CMD has latched GTW: its READ16 has sampled the low byte, its fallback has sampled, or it is a READW
that has completed. -/
def latched (s : State) : Prop :=
  match s.ph with
  | .r16H2 | .r16Rst | .wO2 | .wRst => True
  | .idle => s.cmd = 0x03#8
  | .initX | .r16H1 | .r16L | .r16Sup | .r16Smp | .wO1 | .wSup | .wSnp | .conv => False

/-- A move latches the true tick, or leaves GTW and does not make it latched. -/
def latchesOrKeeps (s t : State) : Prop :=
  t.gtw = trueTick s ∨ (t.gtw = s.gtw ∧ (latched t → latched s))

section Latch

variable {s t : State}

theorem retW_keeps_gtw {v : Word} (h : retW v s = .next t) : t.gtw = s.gtw := by
  obtain ⟨-, h⟩ | ⟨-, h⟩ | ⟨-, h⟩ := retW_cases h <;> cases h <;> rfl

theorem latched_of_ph {p : Phase} (hp : s.ph = p) (h : p = .r16H2 ∨ p = .r16Rst ∨ p = .wO2 ∨ p = .wRst) :
    latched s := by
  rw [latched, hp]
  obtain rfl | rfl | rfl | rfl := h <;> trivial

theorem microStep_latchesOrKeeps (hinv : BlockInv s) (hidle : s.ph ≠ .idle) (hinit : s.ph ≠ .initX)
    (hs : microStep s = .next t) : latchesOrKeeps s t := by
  unfold microStep at hs
  have hlatched : s.ph = .r16H2 ∨ s.ph = .r16Rst ∨ s.ph = .wO2 ∨ s.ph = .wRst → latched s := latched_of_ph rfl
  cases hp : s.ph with rw [hp] at hs hlatched
  | idle => exact absurd hp hidle
  | initX => exact absurd hp hinit
  | r16L | r16Smp | wSnp => cases hs; exact .inl rfl
  | r16H1 | r16Sup | wO1 | wSup => cases hs; exact .inr ⟨rfl, False.elim⟩
  | r16H2 =>
    refine .inr ⟨?_, fun _ => hlatched (by simp)⟩
    obtain ⟨-, hs⟩ | ⟨-, -, hs⟩ | ⟨-, -, hs⟩ := phaseR16H2_cases hs
    · exact (ret16_keeps_read hs.symm).2.2.1
    · cases hs; rfl
    · cases hs; rfl
  | r16Rst => exact .inr ⟨(ret16_keeps_read hs).2.2.1, fun _ => hlatched (by simp)⟩
  | wO2 =>
    refine .inr ⟨?_, fun _ => hlatched (by simp)⟩
    obtain ⟨-, hs⟩ | ⟨-, -, hs⟩ | ⟨-, -, hs⟩ := phaseWO2_cases hs
    · exact (retW_keeps_gtw hs.symm).trans rfl
    · cases hs; rfl
    · cases hs; rfl
  | wRst => exact .inr ⟨(retW_keeps_gtw hs).trans rfl, fun _ => hlatched (by simp)⟩
  | conv =>
    cases hs
    exact .inr ⟨rfl, fun (hcmd : s.cmd = 0x03#8) => absurd hcmd (cmd_ne_readw_of_conv hinv hp)⟩

/-- The other agents' moves leave GTW, and whether it is latched. -/
theorem latchesOrKeeps_of_others (hframe : outsideOthers t = outsideOthers s) : latchesOrKeeps s t :=
  have hlatched : latched t = latched s := (congrArg latched hframe :)
  .inr ⟨(congrArg State.gtw hframe :), hlatched.mp⟩

/-- A command that has just been accepted has latched nothing (R62). -/
theorem firstOf_not_latched (s : State) (i : Instr) (t : State) : ¬latched (firstOf s i t) := by
  cases i with
  | init | read16 | readw | t2ms | t2us => exact id
  | nowms | nowus =>
    change ¬latched (enterNow t)
    unfold enterNow
    split <;> exact id

theorem runEvent_latchesOrKeeps {ev : Event} (hinv : BlockInv s) (hinitd : s.initd = true)
    (h : runEvent ev s = .next t) : latchesOrKeeps s t := by
  cases took_of_runEvent h with
  | tick _ => exact latchesOrKeeps_of_others (countTick_outsideOthers s)
  | notify _ => exact latchesOrKeeps_of_others rfl
  | reader hr hs =>
    obtain ⟨-, hidle, -⟩ := (readerEnabled_iff s).1 hr
    exact microStep_latchesOrKeeps hinv hidle (ph_ne_initX hinv hinitd) hs
  | accepted _ i _ =>
    refine .inr ⟨?_, fun hl => absurd hl (firstOf_not_latched s i _)⟩
    obtain ⟨p, a, b, v, hfirst⟩ := Control.firstOf_frame s i (accept (encode i).code i.operand s)
    rw [hfirst]
    rfl
  | nothing _ _ _ _ _ => exact latchesOrKeeps_of_others rfl

end Latch

/-! ### The true tick along a run without a wraparound -/

/-- The true tick has reached `lo`, and what has been latched lies between `lo` and it. -/
structure LatchedSince (lo : Nat) (s : State) : Prop where
  reached : lo ≤ (trueTick s).toNat
  between : latched s → lo ≤ s.gtw.toNat ∧ s.gtw.toNat ≤ (trueTick s).toNat

/-- A move after which the true tick is no less keeps what has been latched in its bounds. -/
theorem LatchedSince.runEvent {lo : Nat} {ev : Event} {s t : State} (l : LatchedSince lo s) (hinv : BlockInv s)
    (hinitd : s.initd = true) (hle : (trueTick s).toNat ≤ (trueTick t).toNat) (h : runEvent ev s = .next t) :
    LatchedSince lo t := by
  refine ⟨l.reached.trans hle, fun hl => ?_⟩
  obtain hgtw | ⟨hgtw, hkeep⟩ := runEvent_latchesOrKeeps hinv hinitd h
  · rw [hgtw]
    exact ⟨l.reached, hle⟩
  · obtain ⟨hlo, hhi⟩ := l.between (hkeep hl)
    rw [hgtw]
    exact ⟨hlo, hhi.trans hle⟩

/-- Without a wraparound, adding ticks adds their number. -/
theorem toNat_add_ofNat {x : Word} {n : Nat} (h : x.toNat + n < 2 ^ 32) :
    (x + BitVec.ofNat 32 n).toNat = x.toNat + n := by
  rw [BitVec.toNat_add, BitVec.toNat_ofNat]
  omega

/-- A schedule that takes the true tick through no wraparound keeps what has been latched in its bounds. -/
theorem LatchedSince.runSchedule {lo : Nat} {evs : List Event} {s t : State} (l : LatchedSince lo s)
    (hinv : BlockInv s) (hinitd : s.initd = true) (hwrap : (trueTick s).toNat + ticksTaken evs s < 2 ^ 32)
    (h : runSchedule evs s = some t) : LatchedSince lo t := by
  induction evs generalizing s with
  | nil => cases h; exact l
  | cons ev evs ih =>
    obtain ⟨u, hu, h⟩ := runSchedule_cons_eq_some.1 h
    obtain ⟨hkeep, htick⟩ := runEvent_trueTick (ph_ne_initX hinv hinitd) hu
    rw [ticksTaken, countAlong_cons_of_next hu] at hwrap
    have hu32 := toNat_add_ofNat (x := trueTick s) (n := if takesTick ev s then 1 else 0) (by omega)
    rw [← htick] at hu32
    refine ih (l.runEvent hinv hinitd (by omega) hu) (runEvent_keeps_inv hinv hu) (hkeep.trans hinitd) ?_ h
    rw [ticksTaken]
    omega

/-- Counts add up along a schedule cut in two. -/
theorem countAlong_append (counts : Event → State → Bool) {evs₁ : List Event} {s u : State}
    (h : runSchedule evs₁ s = some u) (evs₂ : List Event) :
    countAlong counts (evs₁ ++ evs₂) s = countAlong counts evs₁ s + countAlong counts evs₂ u := by
  induction evs₁ generalizing s with
  | nil =>
    cases h
    exact (Nat.zero_add _).symm
  | cons ev evs₁ ih =>
    obtain ⟨v, hv, h⟩ := runSchedule_cons_eq_some.1 h
    rw [List.cons_append, countAlong_cons_of_next hv, countAlong_cons_of_next hv, ih h, Nat.add_assoc]

/-- A completed READW has latched GTW. -/
theorem latched_of_readw {s : State} (hinv : BlockInv s) (hcmd : s.cmd = 0x03#8) (hbusy : s.busy = false) :
    latched s := by
  rw [latched, idle_of_not_busy hinv hbusy]
  exact hcmd

/-- Settles O53: both READWs return what they latched, the first no more than the true tick when it was done, the second
no less. -/
theorem wideReadsAreMonotone : Obligations.WideReadsAreMonotone := by
  intro s u v evs₁ evs₂ hclean _ hrun₁ hrun₂ hz hwrap hcmdu hbusyu hcmdv hbusyv
  obtain ⟨m, hu, hz⟩ := (soundRead_of_clean hclean).runSchedule hz hrun₁
  obtain ⟨_, hv, -⟩ := hu.runSchedule (rest := []) (by rwa [List.append_nil]) hrun₂
  rw [hu.res_of_readw hcmdu hbusyu, hv.res_of_readw hcmdv hbusyv]
  rw [ticksTaken, countAlong_append _ hrun₁] at hwrap
  have htick := toNat_add_ofNat (x := trueTick s) (n := ticksTaken evs₁ s) (by rw [ticksTaken]; omega)
  rw [← trueTickCountsEveryTick s u evs₁ hclean.inv hclean.initd hrun₁, ticksTaken] at htick
  have hnone : ¬latched s := by rw [latched, hclean.ph, hclean.cmd]; decide
  have hsince : LatchedSince 0 s := ⟨Nat.zero_le _, fun hl => absurd hl hnone⟩
  have hlu := hsince.runSchedule hclean.inv hclean.initd (by rw [ticksTaken]; omega) hrun₁
  obtain ⟨-, hle⟩ := hlu.between (latched_of_readw hu.inv hcmdu hbusyu)
  have hsince : LatchedSince u.gtw.toNat u := ⟨hle, fun _ => ⟨le_rfl, hle⟩⟩
  have hlv := hsince.runSchedule hu.inv hu.initd (by rw [ticksTaken]; omega) hrun₂
  exact (hlv.between (latched_of_readw hv.inv hcmdv hbusyv)).1

end Sys2Proof.MonotoneReads
end

section
/-! PROOFS. The conversion functions (spec/42_converter.md R87 to R91, R97 to R99): arithmetic on naturals over the
parameters of R6. On the exact path F_HZ is F_MHZ million with F_MHZ one of 1, 2, 4 and 8, and P_EFF is at most 1024. -/

namespace Sys2Proof.Conversion

open Sys2Proof.Machine

section Formulas

variable {c : Config} {t : Nat}

/-! ### The parameters (R6) -/

theorem exactMhz_iff_mem (c : Config) : exactMhz c = true ↔ c.fHz ∈ [1000000, 2000000, 4000000, 8000000] := by
  simp [exactMhz]

theorem fHz_of_exactMhz (h : exactMhz c = true) :
    c.fHz = 1000000 ∨ c.fHz = 2000000 ∨ c.fHz = 4000000 ∨ c.fHz = 8000000 :=
  of_decide_eq_true h

/-- On the exact path F_MHZ loses nothing of F_HZ, and is positive (R6). -/
theorem fHz_eq_fMhz_mul (h : exactMhz c = true) : 0 < fMhz c ∧ c.fHz = fMhz c * 1000000 := by
  have := fHz_of_exactMhz h
  unfold fMhz
  omega

theorem pEff_cases (c : Config) : pEff c = 1 ∨ pEff c = 8 ∨ pEff c = 64 ∨ pEff c = 256 ∨ pEff c = 1024 := by
  simpa using Control.pEff_supported c

theorem pEff_le (c : Config) : pEff c ≤ 1024 := by
  have := pEff_cases c
  omega

theorem quotient_le_pEff (c : Config) : quotient c ≤ pEff c :=
  Nat.div_le_self _ _

theorem width_of_wide (h : c.enWide = true) : width c = 32 := if_pos h

theorem width_of_narrow (h : c.enWide = false) : width c = 16 := if_neg (by simp [h])

/-! ### The two paths before reduction (R87, R88) -/

theorem msExact_of_exact (h : exactMhz c = true) : msExact c t = t * quotient c / 1000 := if_pos h

theorem usExact_of_exact (h : exactMhz c = true) : usExact c t = t * quotient c := if_pos h

theorem msExact_of_general (h : ¬exactMhz c = true) : msExact c t = t * 1000 * pEff c / c.fHz := if_neg h

theorem usExact_of_general (h : ¬exactMhz c = true) : usExact c t = t * 1000 * pEff c / (c.fHz / 1000) := if_neg h

/-- Multiplication and floor division by naturals preserve order (R99). -/
theorem msExact_mono (c : Config) : Monotone (msExact c) := by
  intro t₁ t₂ h
  unfold msExact
  split <;> gcongr

theorem usExact_mono (c : Config) : Monotone (usExact c) := by
  intro t₁ t₂ h
  unfold usExact
  split <;> gcongr

/-! ### The reduction to W bits (R90) -/

theorem ms_lt (c : Config) (t : Nat) : ms c t < 2 ^ width c := Nat.mod_lt _ (Nat.two_pow_pos _)

theorem us_lt (c : Config) (t : Nat) : us c t < 2 ^ width c := Nat.mod_lt _ (Nat.two_pow_pos _)

theorem ms_eq_msExact (h : msExact c t < 2 ^ width c) : ms c t = msExact c t := Nat.mod_eq_of_lt h

theorem us_eq_usExact (h : usExact c t < 2 ^ width c) : us c t = usExact c t := Nat.mod_eq_of_lt h

/-- The largest intermediate of a conversion, by the bounds of its factors (R89). -/
theorem intermediate_lt (h : t < 2 ^ width c) : t * 1000 * pEff c < 2 ^ width c * 1024000 :=
  calc t * 1000 * pEff c ≤ t * 1000 * 1024 := Nat.mul_le_mul_left _ (pEff_le c)
    _ < 2 ^ width c * 1024000 := by omega

/-- The product of the exact path is no larger than that of the general one (R89). -/
theorem mul_quotient_le (c : Config) (t : Nat) : t * quotient c ≤ t * 1000 * pEff c :=
  Nat.mul_le_mul (Nat.le_mul_of_pos_right t (by decide)) (quotient_le_pEff c)

end Formulas

/-! ### The obligations -/

/-- Settles O31: the clock decides the path, and the parameters are those of R6. -/
theorem conversionFormulas : Obligations.ConversionFormulas := by
  intro c t
  rw [← exactMhz_iff_mem, ms, us]
  refine ⟨fun h => ?_, fun h => ?_⟩
  · rw [msExact_of_exact h, usExact_of_exact h]
    exact ⟨rfl, rfl⟩
  · rw [msExact_of_general h, usExact_of_general h]
    exact ⟨rfl, rfl⟩

/-- Settles O32: t is below 2^W and P_EFF at most 1024. -/
theorem conversionBounds : Obligations.ConversionBounds := by
  intro c t hwf ht
  obtain ⟨hlow, -⟩ : 1000 ≤ c.fHz ∧ c.fHz ≤ 4294967295 := by simpa [Config.wf] using hwf
  have hlt := intermediate_lt ht
  have hexact := mul_quotient_le c t
  have hnarrow (h : c.enWide = false) : t * 1000 * pEff c < 2 ^ 36 := by
    rw [width_of_narrow h] at hlt
    omega
  have hwide : t * 1000 * pEff c < 2 ^ 52 := by
    cases h : c.enWide with
    | false => exact (hnarrow h).trans (by decide)
    | true =>
      rw [width_of_wide h] at hlt
      omega
  exact ⟨hwide, hnarrow, hexact.trans_lt hwide, by omega, by omega, ms_lt c t, us_lt c t⟩

/-- Settles O33: the quotient is 0 iff P_EFF is below F_MHZ, which of the supported divisors only 1 can be. -/
theorem zeroQuotient : Obligations.ZeroQuotient := by
  intro c h
  refine ⟨?_, fun hq t => ?_⟩
  · have hclock := fHz_of_exactMhz h
    have hdivisor := pEff_cases c
    rw [quotient, fMhz, Nat.div_eq_zero_iff]
    omega
  · rw [ms, us, msExact_of_exact h, usExact_of_exact h, hq]
    simp

/-- Settles O34: unreduced, both results are t · Q, which ms divides by 1000; the counterexample is by computation. -/
theorem microsecondsAgreeWithMilliseconds : Obligations.MicrosecondsAgreeWithMilliseconds := by
  refine ⟨fun c t h hlt => ?_, fun c hclock hreq hnarrow => ?_⟩
  · have hus : us c t = t * quotient c := (us_eq_usExact (by rwa [usExact_of_exact h])).trans (usExact_of_exact h)
    have hms : ms c t = t * quotient c / 1000 :=
      (ms_eq_msExact (by rw [msExact_of_exact h]; omega)).trans (msExact_of_exact h)
    rw [hus, hms]
  · have h : exactMhz c = true := by simp [exactMhz, hclock]
    have hq : quotient c = 128 := by
      rw [quotient, fMhz, hclock, Control.pEff_of_supported (by simp [hreq]), hreq]
    rw [ms, us, msExact_of_exact h, usExact_of_exact h, hq, width_of_narrow hnarrow]
    decide

/-- Settles O35: with `P_EFF = F_MHZ · Q`, the factor `F_MHZ · 1000` cancels in both general formulas. -/
theorem pathsAgree : Obligations.PathsAgree := by
  intro c t h ⟨q, hq⟩
  obtain ⟨hpos, hfHz⟩ := fHz_eq_fMhz_mul h
  have hquotient : quotient c = q := by rw [quotient, hq, Nat.mul_div_cancel_left _ hpos]
  have hkHz : c.fHz / 1000 = fMhz c * 1000 := by omega
  have hfactor : 0 < fMhz c * 1000 := by omega
  have hproduct : t * 1000 * pEff c = fMhz c * 1000 * (t * q) := by rw [hq]; ring
  have hclock : c.fHz = fMhz c * 1000 * 1000 := by rw [hfHz, Nat.mul_assoc]
  rw [hquotient, hproduct, hkHz]
  exact ⟨by rw [hclock, Nat.mul_div_mul_left _ _ hfactor], Nat.mul_div_cancel_left _ hfactor⟩

/-- Settles O36: the larger result is unreduced, and the smaller is at most its own value before reduction. -/
theorem conversionMonotone : Obligations.ConversionMonotone := by
  intro c t₁ t₂ h
  have hms := msExact_mono c h
  have hus := usExact_mono c h
  refine ⟨hms, hus, fun hlt => ?_, fun hlt => ?_⟩
  · rw [ms_eq_msExact hlt]
    exact (Nat.mod_le _ _).trans hms
  · rw [us_eq_usExact hlt]
    exact (Nat.mod_le _ _).trans hus

end Sys2Proof.Conversion
end

section
/-! PROOFS. The commands that end in step CONV (spec/42_converter.md R92 to R96, R101). CONV completes with `converted`,
which reads CMD, VT and the configuration, elements no other agent writes; the reads before it are those of
spec/41_counter_reads.md with the continuation that enters CONV. -/

namespace Sys2Proof.ConverterCommands

open Sys2Proof.Machine Sys2Proof.Safety Sys2Proof.Scope Sys2Proof.QuietReads Sys2Proof.CounterReads Sys2Proof.Overflow

/-! ### ISSUE (R61, R62) -/

/-- Where the block takes commands, every command but INIT that the configuration has is accepted (R54, R61). -/
theorem exec_of_acceptsCommands {i : Instr} {s : State} (h : acceptsCommands s) (hpresent : i.wf s.cfg = true)
    (hinit : (encode i).code ≠ 0x01#8) : exec i s = .next (firstOf s i (accept (encode i).code i.operand s)) := by
  obtain ⟨hflt, hbusy, hinitd⟩ := h
  have hverdict : verdict s.cfg (encode i).code = .present := by simpa using hpresent
  exact exec_of_accepted hflt ((issueFault_eq_none_iff _ _).2 ⟨hbusy, hverdict, by simp [hinitd, hinit]⟩)

theorem exec_t2ms_of_acceptsCommands {s : State} (h : acceptsCommands s) (hpresent : s.cfg.enMs = true) (w : Word) :
    exec (.t2ms w) s = .next (enterConv (tickOperand s.cfg w) (accept 0x04#8 w s)) :=
  exec_of_acceptsCommands (i := .t2ms w) h hpresent (by simp [encode])

theorem exec_t2us_of_acceptsCommands {s : State} (h : acceptsCommands s) (hpresent : s.cfg.enUs = true) (w : Word) :
    exec (.t2us w) s = .next (enterConv (tickOperand s.cfg w) (accept 0x05#8 w s)) :=
  exec_of_acceptsCommands (i := .t2us w) h hpresent (by simp [encode])

theorem enterNow_of_wide {s : State} (h : s.cfg.enWide = true) : enterNow s = enterW s := if_pos h

theorem enterNow_of_narrow {s : State} (h : s.cfg.enWide = false) : enterNow s = enter16 s := if_neg (by simp [h])

/-- The operand of T2MS and T2US as a number (R53). -/
theorem tickOperand_toNat (c : Config) (w : Word) : (tickOperand c w).toNat = w.toNat % 2 ^ width c := by
  rw [tickOperand, BitVec.toNat_ofNat]
  exact Nat.mod_eq_of_lt ((Nat.mod_le _ _).trans_lt w.isLt)

/-! ### Step CONV (R96) -/

theorem converted_of_ms {s : State} (h : s.cmd = 0x04#8 ∨ s.cmd = 0x06#8) :
    converted s = BitVec.ofNat 32 (ms s.cfg s.vt.toNat) :=
  if_pos h

theorem converted_of_us {s : State} (h : s.cmd = 0x05#8 ∨ s.cmd = 0x07#8) :
    converted s = BitVec.ofNat 32 (us s.cfg s.vt.toNat) :=
  if_neg (by obtain h | h := h <;> rw [h] <;> decide)

/-- What an accepted T2MS converts its operand to (R53, R92). -/
theorem converted_of_t2ms (w : Word) (s : State) :
    converted (enterConv (tickOperand s.cfg w) (accept 0x04#8 w s)) =
      BitVec.ofNat 32 (ms s.cfg (w.toNat % 2 ^ width s.cfg)) := by
  rw [converted_of_ms (.inl rfl), enterConv_vt, tickOperand_toNat, enterConv_cfg, accept_cfg]

/-- What an accepted T2US converts its operand to (R53, R93). -/
theorem converted_of_t2us (w : Word) (s : State) :
    converted (enterConv (tickOperand s.cfg w) (accept 0x05#8 w s)) =
      BitVec.ofNat 32 (us s.cfg (w.toNat % 2 ^ width s.cfg)) := by
  rw [converted_of_us (.inl rfl), enterConv_vt, tickOperand_toNat, enterConv_cfg, accept_cfg]

/-- The READER's step at CONV (R96). -/
theorem runEvent_of_conv {s : State} (h : readerEnabled s = true) (hp : s.ph = .conv) :
    runEvent .reader s = .next (completed (converted s) s) := by
  rw [runEvent_reader_of_enabled h, microStep, hp]
  rfl

/-- Settles O30: CMD decides between the two functions. -/
theorem stepConv : Obligations.StepConv := by
  intro s h hp
  rw [runEvent_of_conv h hp]
  exact ⟨fun hcmd => by rw [converted_of_ms hcmd], fun hcmd => by rw [converted_of_us hcmd]⟩

/-! ### Conversions with no other agent's step in between -/

/-- One READER step completes a command that has entered CONV. -/
theorem runSchedule_conv {s : State} {r : Word} (hflt : s.flt = 0#3) (hnotify : notifyEnabled s = false)
    (hp : s.ph = .conv) (hr : converted s = r) : runSchedule [.reader] s = some (completed r s) :=
  runSchedule_reader_cons (runEvent_of_conv (readerEnabled_of_quiet hflt hnotify (by simp [hp])) hp) (hr ▸ rfl)

section Now

variable {s : State} {c : Byte} {f : Config → Nat → Nat}

/-- NOWMS or NOWUS of a narrow block: the READ16 that reads HW, then CONV (R94, R95). -/
theorem runSchedule_now_of_narrow (hflt : s.flt = 0#3) (hnotify : notifyEnabled s = false)
    (hnarrow : s.cfg.enWide = false) (hc : c = 0x06#8 ∨ c = 0x07#8)
    (hf : ∀ u : State, u.cmd = c → converted u = BitVec.ofNat 32 (f u.cfg u.vt.toNat)) (w : Word) :
    runSchedule (List.replicate 4 .reader) { issued c w s with a := 0, ph := .r16H1 } =
      some (completed (BitVec.ofNat 32 (f s.cfg s.hw.toNat)) { read16Done (issued c w s) with vt := zext s.hw }) := by
  rw [← zext_toNat]
  refine runSchedule_read16Attempt hflt hnotify rfl rfl (ret16_of_narrow hc (by exact hnarrow) _) ?_
  exact runSchedule_conv hflt hnotify rfl (hf _ rfl)

/-- NOWMS or NOWUS of a wide block: the READWIDE that reads `OVF ++ HW`, then CONV (R94, R95). -/
theorem runSchedule_now_of_wide (hflt : s.flt = 0#3) (hnotify : notifyEnabled s = false)
    (hwide : s.cfg.enWide = true) (hc : c = 0x06#8 ∨ c = 0x07#8)
    (hf : ∀ u : State, u.cmd = c → converted u = BitVec.ofNat 32 (f u.cfg u.vt.toNat)) (w : Word) :
    runSchedule (List.replicate 6 .reader) { issued c w s with b := 0, ph := .wO1 } =
      some (completed (BitVec.ofNat 32 (f s.cfg (extended s.ovf s.hw).toNat))
        { readWideDone (issued c w s) with vt := extended s.ovf s.hw }) := by
  refine runSchedule_readWideAttempt hflt hnotify rfl rfl hwide (.inr hc) (retW_of_now hc _) ?_
  exact runSchedule_conv hflt hnotify rfl (hf _ rfl)

end Now

/-- Settles O12: the operand is latched in VT, and CMD 0x04 converts it to milliseconds. -/
theorem t2msCompletes : Obligations.T2msCompletes := fun w s haccepts hpresent =>
  ⟨exec_t2ms_of_acceptsCommands haccepts hpresent w,
    fun hnotify => runSchedule_conv haccepts.1 hnotify rfl (converted_of_t2ms w s)⟩

/-- Settles O13: the operand is latched in VT, and CMD 0x05 converts it to microseconds. -/
theorem t2usCompletes : Obligations.T2usCompletes := fun w s haccepts hpresent =>
  ⟨exec_t2us_of_acceptsCommands haccepts hpresent w,
    fun hnotify => runSchedule_conv haccepts.1 hnotify rfl (converted_of_t2us w s)⟩

/-- Settles O14: the read of the block's width, whose value CMD 0x06 converts to milliseconds. -/
theorem nowmsCompletes : Obligations.NowmsCompletes := by
  intro w s haccepts hpresent
  have hexec := exec_of_acceptsCommands (i := .nowms w) haccepts hpresent (by simp [encode])
  obtain ⟨hflt, -⟩ := haccepts
  have hconv (u : State) (hcmd : u.cmd = 0x06#8) := converted_of_ms (s := u) (.inr hcmd)
  refine ⟨fun hnarrow => ⟨?_, fun hnotify => ?_⟩, fun hwide => ⟨?_, fun hnotify => ?_⟩⟩
  · exact hexec.trans (congrArg _ (enterNow_of_narrow hnarrow))
  · exact runSchedule_now_of_narrow hflt hnotify hnarrow (.inl rfl) hconv w
  · exact hexec.trans (congrArg _ (enterNow_of_wide hwide))
  · exact runSchedule_now_of_wide hflt hnotify hwide (.inl rfl) hconv w

/-- Settles O15: the read of the block's width, whose value CMD 0x07 converts to microseconds. -/
theorem nowusCompletes : Obligations.NowusCompletes := by
  intro w s haccepts hpresent
  have hexec := exec_of_acceptsCommands (i := .nowus w) haccepts hpresent (by simp [encode])
  obtain ⟨hflt, -⟩ := haccepts
  have hconv (u : State) (hcmd : u.cmd = 0x07#8) := converted_of_us (s := u) (.inr hcmd)
  refine ⟨fun hnarrow => ⟨?_, fun hnotify => ?_⟩, fun hwide => ⟨?_, fun hnotify => ?_⟩⟩
  · exact hexec.trans (congrArg _ (enterNow_of_narrow hnarrow))
  · exact runSchedule_now_of_narrow hflt hnotify hnarrow (.inr rfl) hconv w
  · exact hexec.trans (congrArg _ (enterNow_of_wide hwide))
  · exact runSchedule_now_of_wide hflt hnotify hwide (.inr rfl) hconv w

/-! ### Conversions under every interleaving (R101) -/

/-- A conversion whose result is `r`: it waits at CONV for the step that returns `r`, or has returned it. -/
def convertsTo (r : Word) (u : State) : Prop :=
  u.ph = .conv ∧ u.busy = true ∧ converted u = r ∨ u.ph = .idle ∧ u.busy = false ∧ u.rv = true ∧ u.res = r

section Interleaved

variable {r : Word} {u u' : State}

/-- The conversion is told by elements that the other agents do not write. -/
theorem convertsTo_of_others (h : convertsTo r u) (hframe : outsideOthers u' = outsideOthers u) : convertsTo r u' := by
  have houtside : convertsTo r (outsideOthers u') := hframe ▸ h
  exact houtside

/-- An enabled READER returns the result: it has no step once the result is returned (R65, R96). -/
theorem microStep_keeps_convertsTo (h : convertsTo r u) (hr : readerEnabled u = true) (hs : microStep u = .next u') :
    convertsTo r u' := by
  obtain ⟨-, hidle, -⟩ := (readerEnabled_iff u).1 hr
  obtain ⟨hp, -, hconverted⟩ | ⟨hp, -⟩ := h
  · rw [← runEvent_reader_of_enabled hr, runEvent_of_conv hr hp, hconverted] at hs
    cases hs
    exact .inr ⟨rfl, rfl, rfl, rfl⟩
  · exact absurd hp hidle

/-- A move that delivers no command keeps the conversion. -/
theorem runEvent_keeps_convertsTo {ev : Event} (h : convertsTo r u) (hissue : isIssue ev = false)
    (hev : runEvent ev u = .next u') : convertsTo r u' := by
  cases took_of_runEvent hev with
  | tick _ => exact convertsTo_of_others h (countTick_outsideOthers u)
  | notify _ => exact convertsTo_of_others h rfl
  | reader hr hs => exact microStep_keeps_convertsTo h hr hs
  | accepted _ _ _ => cases hissue
  | nothing _ _ _ _ _ => exact convertsTo_of_others h rfl

theorem runSchedule_keeps_convertsTo {evs : List Event} (h : convertsTo r u) (hissue : noIssue evs)
    (hrun : runSchedule evs u = some u') : convertsTo r u' := by
  induction evs generalizing u with
  | nil =>
    cases hrun
    exact h
  | cons ev evs ih =>
    obtain ⟨m, hm, hrun⟩ := runSchedule_cons_eq_some.1 hrun
    obtain ⟨hev, hevs⟩ := List.forall_mem_cons.1 hissue
    exact ih (runEvent_keeps_convertsTo h hev hm) hevs hrun

/-- A conversion that is not busy has returned its result. -/
theorem res_of_convertsTo (h : convertsTo r u) (hbusy : u.busy = false) : u.rv = true ∧ u.res = r := by
  obtain ⟨-, hb, -⟩ | ⟨-, -, hresult⟩ := h
  · exact absurd (hbusy.symm.trans hb) Bool.noConfusion
  · exact hresult

end Interleaved

/-- A command accepted with VT and PH set for CONV returns what CONV makes of them, under every schedule that delivers
no further command and lets it complete (R96, R101). -/
theorem res_of_enterConv {v : Word} {s u : State} {c : Byte} {w : Word} {evs : List Event} (hissue : noIssue evs)
    (hrun : runSchedule evs (enterConv v (accept c w s)) = some u) (hbusy : u.busy = false) :
    u.rv = true ∧ u.res = converted (enterConv v (accept c w s)) :=
  res_of_convertsTo (runSchedule_keeps_convertsTo (.inl ⟨rfl, rfl, rfl⟩) hissue hrun) hbusy

/-- Settles O37: from ISSUE on the command converts its operand, and every move but a new ISSUE keeps that. -/
theorem conversionIgnoresTheCounter : Obligations.ConversionIgnoresTheCounter := by
  intro w s t u evs haccepts hissue hrun hbusy
  refine ⟨fun hpresent hexec => ?_, fun hpresent hexec => ?_⟩
  · rw [exec_t2ms_of_acceptsCommands haccepts hpresent] at hexec
    cases hexec
    rw [← converted_of_t2ms]
    exact res_of_enterConv hissue hrun hbusy
  · rw [exec_t2us_of_acceptsCommands haccepts hpresent] at hexec
    cases hexec
    rw [← converted_of_t2us]
    exact res_of_enterConv hissue hrun hbusy

end Sys2Proof.ConverterCommands
end

section
/-! PROOFS. Faults and their precision (spec/60_exceptions.md R102, R103): where FLT ≠ 0 the command port and the READER
stand still, and what changes FLT is a check of ISSUE or RDRES that fails. -/

namespace Sys2Proof.Faults

open Sys2Proof.Machine Sys2Proof.Safety Sys2Proof.Frames

/-! ### A faulted block (R103) -/

theorem faultFree_of_faulted {s : State} (h : s.flt ≠ 0#3) : faultFree s = false := by
  simpa [faultFree] using h

/-- A faulted block turns every ISSUE away (R61). -/
theorem issue_of_faulted {s : State} (h : s.flt ≠ 0#3) (code : Byte) (arg : Word) (first : State → State) :
    issue code arg first s = .next s := by
  simp [issue, faultFree_of_faulted h]

/-- Settles O6: each of these moves asks for FLT = 0 first. -/
theorem faultedBlockHasNoCommandStep : Obligations.FaultedBlockHasNoCommandStep := by
  intro s h
  have hfree := faultFree_of_faulted h
  refine ⟨fun i => ?_, fun tx => ?_, ?_, ?_⟩
  · rw [exec_eq_issue]
    exact issue_of_faulted h _ _ _
  · obtain ⟨code, arg, first, heq⟩ := issueTransaction_eq_issue tx s
    exact heq.trans (issue_of_faulted h code arg first)
  · simp [runEvent, hostRdres, hfree]
  · simp [runEvent, readerStep, readerEnabled, hfree]

/-! ### Precision (R102, R103) -/

/-- TICK, NOTIFY, the READER and RDSTAT leave FLT alone: only ISSUE and RDRES raise a fault (R102). -/
theorem runEvent_flt_of_silent {ev : Event} {s t : State} (hissue : isIssue ev = false) (hrdres : ev ≠ .rdres)
    (h : runEvent ev s = .next t) : t.flt = s.flt := by
  cases ev with
  | tick => obtain ⟨-, h⟩ | ⟨-, h⟩ | ⟨-, -, h⟩ | ⟨-, -, h⟩ := tickStep_cases h <;> cases h <;> rfl
  | notify => obtain ⟨-, h⟩ | ⟨-, h⟩ := notifyStep_cases h <;> cases h <;> rfl
  | reader =>
    obtain ⟨-, h⟩ | ⟨-, h⟩ := readerStep_cases h
    · cases h; rfl
    · exact microStep_flt h.symm
  | issue tx => cases hissue
  | rdres => exact absurd rfl hrdres
  | rdstat => cases h; rfl

/-- No first phase touches FLT (R62). -/
theorem firstPhase_issued_flt (c : Byte) (w : Word) (s : State) : (firstPhase c w (issued c w s)).flt = s.flt := by
  simp only [firstPhase, apply_ite State.flt, ite_self]
  rfl

/-- An ISSUE that changes FLT writes one of the codes 1 to 4 there, and nothing else (R61). -/
theorem issueTransaction_precise {tx : Transaction} {s t : State} (hflt : s.flt = 0#3)
    (h : issueTransaction tx s = .next t) (hne : t.flt ≠ s.flt) :
    t = { s with flt := t.flt } ∧ 1 ≤ t.flt.toNat ∧ t.flt.toNat ≤ 4 := by
  rw [Control.issueChecksThenStarts tx.code tx.arg s hflt] at h
  split_ifs at h <;> cases h
  · exact ⟨rfl, by simp⟩
  · exact ⟨rfl, by simp⟩
  · exact ⟨rfl, by simp⟩
  · exact ⟨rfl, by simp⟩
  · exact absurd (firstPhase_issued_flt tx.code tx.arg s) hne

/-- An RDRES that changes FLT writes F_BUSY or F_RES_UNWRITTEN there, and nothing else (R63). -/
theorem rdres_precise {s t : State} (hflt : s.flt = 0#3) (h : runEvent .rdres s = .next t) (hne : t.flt ≠ s.flt) :
    t = { s with flt := t.flt } ∧ (t.flt = 4#3 ∨ t.flt = 5#3) := by
  rw [Control.rdresReturnsTheResult s hflt] at h
  split_ifs at h <;> cases h
  · exact ⟨rfl, .inl rfl⟩
  · exact ⟨rfl, .inr rfl⟩
  · exact absurd rfl hne

/-- Settles O7: a move that changes FLT finds FLT = 0 and is no silent one, so it is an ISSUE or an RDRES. -/
theorem faultsArePrecise : Obligations.FaultsArePrecise := by
  intro ev s t h hne
  obtain heq | ⟨hflt, -⟩ := runEvent_flt h
  · exact absurd heq hne
  by_cases hrdres : ev = .rdres
  · subst hrdres
    obtain ⟨hframe, hcode⟩ := rdres_precise hflt h hne
    exact ⟨hflt, hframe, .inr ⟨rfl, hcode⟩⟩
  cases ev with
  | issue tx =>
    obtain ⟨hframe, hcode⟩ := issueTransaction_precise hflt h hne
    exact ⟨hflt, hframe, .inl ⟨⟨tx, rfl⟩, hcode⟩⟩
  | tick | notify | reader | rdres | rdstat => exact absurd (runEvent_flt_of_silent rfl hrdres h) hne

end Sys2Proof.Faults
end

section
/-! PROOFS. The timer and the overflow notification (spec/60_exceptions.md R108 to R115). -/

namespace Sys2Proof.Notification

open Sys2Proof.Machine Sys2Proof.Safety

/-- NOTIFY waits on three bits, whatever FLT holds (R110). -/
theorem notifyEnabled_iff (s : State) :
    notifyEnabled s = true ↔ s.armed = true ∧ s.pend = true ∧ s.sup = false := by
  simp [notifyEnabled, and_assoc]

/-- NOTIFY clears what enabled it, so it does not nest (R115). -/
theorem notifyEnabled_takeNotification (s : State) : notifyEnabled (takeNotification s) = false := by
  simp [notifyEnabled]

theorem runEvent_notify_of_enabled {s : State} (h : notifyEnabled s = true) :
    runEvent .notify s = .next (takeNotification s) :=
  if_pos h

/-- A TICK of a running counter counts (R108). -/
theorem runEvent_tick_of_enabled {s : State} (h : tickEnabled s = true) (h6 : s.ps ≠ 6#3) (h7 : s.ps ≠ 7#3) :
    runEvent .tick s = .next (countTick s) := by
  have hlegal : clockSelectIllegal s = false := by simp [clockSelectIllegal, h6, h7]
  simp [runEvent, tickStep, hlegal, h]

/-- Settles O38: the counter wraps at its maximum and advances below it. -/
theorem tickCountsAndWraps : Obligations.TickCountsAndWraps := by
  refine fun s => ⟨by simp [tickEnabled], fun h h6 h7 => ?_⟩
  rw [runEvent_tick_of_enabled h h6 h7]
  by_cases hmax : s.hw = 0xFFFF#16
  · rw [Overflow.countTick_of_maximum hmax, if_pos hmax]
    rfl
  · rw [Overflow.countTick_of_not_maximum hmax, if_neg hmax]
    rfl

/-- Settles O39: the enabling condition of R110 and its two writes. -/
theorem notifyCountsTheWrap : Obligations.NotifyCountsTheWrap := fun s =>
  ⟨notifyEnabled_iff s, runEvent_notify_of_enabled⟩

/-- Settles O40: NOTIFY holds the READER up while it is enabled, and no longer once PEND is acknowledged. -/
theorem notifyGoesFirst : Obligations.NotifyGoesFirst := by
  intro s t hn h
  rw [runEvent_notify_of_enabled hn] at h
  cases h
  have hafter := notifyEnabled_takeNotification s
  exact ⟨by simp [readerEnabled, hn], rfl, hafter, fun hflt =>
    CounterReads.readerEnabled_of_quiet (s := takeNotification s) hflt hafter⟩

end Sys2Proof.Notification
end

section
/-! PROOFS. Every move of every agent answers a state wherever the structural invariant holds (spec/00_scope.md R7,
spec/60_exceptions.md R102): a clock select that TICK meets is one INIT writes, and a continuation that the READER
reaches is one its table lists. -/

namespace Sys2Proof.Progress

open Sys2Proof.Machine Sys2Proof.Safety Sys2Proof.Scope Sys2Proof.Invariants Sys2Proof.CounterReads

/-! ### TICK (R15) -/

/-- INIT writes none of the two codes that stop a TICK (R15, R67). -/
theorem psel_not_illegal (divisor : Nat) : psel divisor ≠ 6#3 ∧ psel divisor ≠ 7#3 := by
  unfold psel
  split <;> decide

/-- PS holds no code that is never written (R15). -/
theorem clockSelect_of_inv {s : State} (hinv : BlockInv s) : clockSelectIllegal s = false := by
  obtain ⟨h6, h7⟩ := psel_not_illegal (pEff s.cfg)
  unfold clockSelectIllegal
  rw [hinv.ps_eq]
  cases s.initd <;> simp [h6, h7]

/-- TICK answers a state (R108). -/
theorem exists_tickStep {s : State} (hinv : BlockInv s) : ∃ t, tickStep s = .next t := by
  obtain ⟨hillegal, -⟩ | ⟨-, h⟩ | ⟨-, -, h⟩ | ⟨-, -, h⟩ := tickStep_cases (s := s) rfl
  · rw [clockSelect_of_inv hinv] at hillegal
    cases hillegal
  · exact ⟨_, h⟩
  · exact ⟨_, h⟩
  · exact ⟨_, h⟩

/-! ### The READER (R76, R83) -/

/-- The commands that run READ16 (R62, R69). -/
theorem phaseOfCommand_r16H1_iff (c : Config) (cmd : Byte) : phaseOfCommand c cmd .r16H1 = true ↔
    cmd = 0x02#8 ∨ cmd = 0x03#8 ∨ cmd = 0x06#8 ∨ cmd = 0x07#8 := by
  simp [phaseOfCommand, readWidePhase, read16Phase, or_assoc]

/-- A command that runs READ16 has a continuation for it: READW is present in a wide block only (R54, R76). -/
theorem exists_ret16 {s : State} (hreads : phaseOfCommand s.cfg s.cmd .r16H1 = true)
    (hpresent : verdict s.cfg s.cmd = .present) (v : Half) : ∃ t, ret16 v s = .next t := by
  obtain hcmd | hcmd | hcmd := (phaseOfCommand_r16H1_iff s.cfg s.cmd).1 hreads
  · exact ⟨_, QuietReads.ret16_of_read16 hcmd v⟩
  · have hwide : s.cfg.enWide = true := by simpa [hcmd, verdict] using hpresent
    exact ⟨_, ret16_of_wide (.inl hcmd) hwide v⟩
  · cases hwide : s.cfg.enWide with
    | true => exact ⟨_, ret16_of_wide (.inr hcmd) hwide v⟩
    | false => exact ⟨_, ret16_of_narrow hcmd hwide v⟩

/-- A command that runs READWIDE has a continuation for it (R83). -/
theorem exists_retW {s : State} (hwide : readsWide s.cfg s.cmd = true) (v : Word) : ∃ t, retW v s = .next t := by
  obtain hcmd | ⟨-, hcmd⟩ := (readsWide_iff s.cfg s.cmd).1 hwide
  · exact ⟨_, retW_of_readw hcmd v⟩
  · exact ⟨_, retW_of_now hcmd v⟩

/-- R16_H2 answers a state: its accept reaches a continuation (R72). -/
theorem exists_phaseR16H2 {s : State} (r : Reading16 s) : ∃ t, phaseR16H2 s = .next t := by
  obtain ⟨-, h⟩ | ⟨-, -, h⟩ | ⟨-, -, h⟩ := phaseR16H2_cases (s := s) rfl <;> rw [h]
  · exact exists_ret16 (s := accept16 _ (recheck16 s)) r.reads r.present _
  · exact ⟨_, rfl⟩
  · exact ⟨_, rfl⟩

/-- W_O2 answers a state: its accept reaches a continuation (R79). -/
theorem exists_phaseWO2 {s : State} (r : ReadingWide s) : ∃ t, phaseWO2 s = .next t := by
  obtain ⟨-, h⟩ | ⟨-, -, h⟩ | ⟨-, -, h⟩ := phaseWO2_cases (s := s) rfl <;> rw [h]
  · exact exists_retW (s := acceptW _ (recheckW s)) r.wide _
  · exact ⟨_, rfl⟩
  · exact ⟨_, rfl⟩

/-- Every micro-step answers a state (R65). -/
theorem exists_microStep {s : State} (hinv : BlockInv s) : ∃ t, microStep s = .next t := by
  have h16 := reading16_of_inv hinv
  have hwide := readingWide_of_inv hinv
  unfold microStep
  cases hp : s.ph with rw [hp] at h16 hwide
  | r16H2 => exact exists_phaseR16H2 (h16 rfl)
  | r16Rst => exact exists_ret16 (s := { s with sup := false }) (h16 rfl).reads (h16 rfl).present _
  | wO2 => exact exists_phaseWO2 (hwide rfl)
  | wRst => exact exists_retW (s := { s with sup := false }) (hwide rfl).wide _
  | idle | initX | r16H1 | r16L | r16Sup | r16Smp | wO1 | wSup | wSnp | conv => exact ⟨_, rfl⟩

/-! ### Every agent -/

/-- ISSUE answers a state, a raised fault included (R61, R102). -/
theorem exists_issueTransaction (tx : Transaction) (s : State) : ∃ t, issueTransaction tx s = .next t := by
  obtain ⟨code, arg, first, h⟩ := issueTransaction_eq_issue tx s
  obtain ⟨-, h⟩ | ⟨f, -, -, h⟩ | ⟨-, -, h⟩ := issue_cases h.symm
  · exact ⟨_, h⟩
  · exact ⟨_, h⟩
  · exact ⟨_, h⟩

/-- In a state that meets the invariant every move answers a state. -/
theorem exists_runEvent {s : State} (hinv : BlockInv s) (ev : Event) : ∃ t, runEvent ev s = .next t := by
  cases ev with
  | tick => exact exists_tickStep hinv
  | notify => obtain ⟨-, h⟩ | ⟨-, h⟩ := notifyStep_cases (s := s) rfl <;> exact ⟨_, h⟩
  | reader =>
    obtain ⟨-, h⟩ | ⟨-, h⟩ := readerStep_cases (s := s) rfl
    · exact ⟨_, h⟩
    · obtain ⟨t, ht⟩ := exists_microStep hinv
      exact ⟨t, h.trans ht⟩
  | issue tx => exact exists_issueTransaction tx s
  | rdres => exact ⟨_, rfl⟩
  | rdstat => exact ⟨_, rfl⟩

/-- Settles O47: the step is a move, run where only the schedule's own elements differ. -/
theorem noStepStopsTheModel : Obligations.NoStepStopsTheModel := by
  intro s hinv hwf
  cases hagenda : s.agenda with
  | nil =>
    rw [step_of_agenda_nil hwf hagenda]
    exact exists_runEvent (s := { s with drawn := s.drawn + 1 }) { hinv with } _
  | cons ev rest =>
    rw [step_of_agenda_cons hwf hagenda]
    exact exists_runEvent (s := { s with agenda := rest }) { hinv with } ev

end Sys2Proof.Progress
end

section
/-! PROOFS. How many READER steps a command in progress has left (spec/41_counter_reads.md R86(a),
spec/70_reset_and_hazards.md R138): at most `mostLeft`, which every READER step lowers, and at least `fewestLeft`, which
no READER step lowers by more than 1. At ISSUE they are the two columns of R138's table. -/

namespace Sys2Proof.StepBounds

open Sys2Proof.Machine Sys2Proof.Safety Sys2Proof.Invariants Sys2Proof.Overflow Sys2Proof.ConverterCommands
open Sys2Proof.QuietReads

/-! ### The steps left, by phase -/

/-- The CONV that follows the read of NOWMS and NOWUS (R94, R95). -/
def convAfterRead (cmd : Byte) : Nat :=
  if cmd = 0x06#8 ∨ cmd = 0x07#8 then 1 else 0

/-- The fewest READER steps after a READ16 has returned: W_O2 accepts (R76, R79). -/
def fewestAfter16 (c : Config) (cmd : Byte) : Nat :=
  (if readsWide c cmd then 1 else 0) + convAfterRead cmd

/-- The most READER steps after a READ16 has returned with `b` READWIDE attempts completed: W_O2, the attempts of 17 steps
that are left, and the fallback (R76, R79 to R82). -/
def mostAfter16 (c : Config) (cmd : Byte) (b : Nat) : Nat :=
  (if readsWide c cmd then 1 + 17 * (3 - b) + 3 else 0) + convAfterRead cmd

/-- The fewest READER steps from a phase to completion (R138). -/
def fewestFrom (c : Config) (cmd : Byte) : Phase → Nat
  | .idle => 0
  | .initX | .conv => 1
  | .r16H1 | .r16Sup => 3 + fewestAfter16 c cmd
  | .r16L | .r16Smp => 2 + fewestAfter16 c cmd
  | .r16H2 | .r16Rst => 1 + fewestAfter16 c cmd
  | .wO1 => 5 + convAfterRead cmd
  | .wSup => 3 + convAfterRead cmd
  | .wSnp => 2 + convAfterRead cmd
  | .wO2 | .wRst => 1 + convAfterRead cmd

/-- The most READER steps from a phase to completion, with `a` and `b` attempts completed (R138). -/
def mostFrom (c : Config) (cmd : Byte) (a b : Nat) : Phase → Nat
  | .idle => 0
  | .initX | .conv => 1
  | .r16H1 => 3 + 3 * (4 - a) + mostAfter16 c cmd b
  | .r16L => 2 + 3 * (4 - a) + mostAfter16 c cmd b
  | .r16H2 => 1 + 3 * (4 - a) + mostAfter16 c cmd b
  | .r16Sup => 3 + mostAfter16 c cmd b
  | .r16Smp => 2 + mostAfter16 c cmd b
  | .r16Rst => 1 + mostAfter16 c cmd b
  | .wO1 => 17 * (4 - b) + 3 + convAfterRead cmd
  | .wO2 => 1 + 17 * (3 - b) + 3 + convAfterRead cmd
  | .wSup => 3 + convAfterRead cmd
  | .wSnp => 2 + convAfterRead cmd
  | .wRst => 1 + convAfterRead cmd

/-- The fewest READER steps that the command in progress still takes. -/
def fewestLeft (s : State) : Nat :=
  fewestFrom s.cfg s.cmd s.ph

/-- The most READER steps that the command in progress still takes. -/
def mostLeft (s : State) : Nat :=
  mostFrom s.cfg s.cmd s.a s.b s.ph

theorem convAfterRead_of_now {cmd : Byte} (h : cmd = 0x06#8 ∨ cmd = 0x07#8) : convAfterRead cmd = 1 := if_pos h

theorem fewestAfter16_of_readsWide {c : Config} {cmd : Byte} (h : readsWide c cmd = true) :
    fewestAfter16 c cmd = 1 + convAfterRead cmd := by
  rw [fewestAfter16, if_pos h]

theorem mostAfter16_of_readsWide {c : Config} {cmd : Byte} (h : readsWide c cmd = true) (b : Nat) :
    mostAfter16 c cmd b = 1 + 17 * (3 - b) + 3 + convAfterRead cmd := by
  rw [mostAfter16, if_pos h]

/-- A READ16 command completes when its READ16 returns (R76). -/
theorem after16_of_read16 (c : Config) (b : Nat) : fewestAfter16 c 0x02#8 = 0 ∧ mostAfter16 c 0x02#8 b = 0 := by
  simp [fewestAfter16, mostAfter16, readsWide, convAfterRead]

/-- A NOWMS or NOWUS of a narrow block only converts what its READ16 returned (R76). -/
theorem after16_of_narrow {c : Config} {cmd : Byte} (hnarrow : c.enWide = false) (h : cmd = 0x06#8 ∨ cmd = 0x07#8)
    (b : Nat) : fewestAfter16 c cmd = 1 ∧ mostAfter16 c cmd b = 1 := by
  obtain rfl | rfl := h <;> simp [fewestAfter16, mostAfter16, readsWide, convAfterRead, hnarrow]

/-! ### What one READER step makes of them -/

/-- One READER step is used up: the most steps left fall, and the fewest by no more than 1. -/
def usesStep (s t : State) : Prop :=
  mostLeft t + 1 ≤ mostLeft s ∧ fewestLeft s ≤ fewestLeft t + 1

section Steps

variable {s t : State}

/-- READ16 returns with the steps after it left (R76). -/
theorem ret16_left {v : Half} (h : ret16 v s = .next t) :
    mostLeft t = mostAfter16 s.cfg s.cmd s.b ∧ fewestLeft t = fewestAfter16 s.cfg s.cmd := by
  obtain ⟨hcmd, h⟩ | ⟨hwide, hcmd, h⟩ | ⟨hnarrow, hcmd, h⟩ | ⟨-, h⟩ := ret16_cases h <;> cases h
  · obtain ⟨hfewest, hmost⟩ := after16_of_read16 s.cfg s.b
    rw [hcmd]
    exact ⟨hmost.symm, hfewest.symm⟩
  · have hw : readsWide s.cfg s.cmd = true := by simpa [readsWide_iff, hwide] using hcmd
    exact ⟨(mostAfter16_of_readsWide hw _).symm, (fewestAfter16_of_readsWide hw).symm⟩
  · obtain ⟨hfewest, hmost⟩ := after16_of_narrow hnarrow hcmd s.b
    exact ⟨hmost.symm, hfewest.symm⟩

/-- READWIDE returns with the conversion left (R83). -/
theorem retW_left {v : Word} (h : retW v s = .next t) :
    mostLeft t = convAfterRead s.cmd ∧ fewestLeft t = convAfterRead s.cmd := by
  obtain ⟨hcmd, h⟩ | ⟨hcmd, h⟩ | ⟨-, h⟩ := retW_cases h <;> cases h
  · rw [hcmd]
    exact ⟨rfl, rfl⟩
  · rw [convAfterRead_of_now hcmd]
    exact ⟨rfl, rfl⟩

/-- The last step of a READ16 is used up by its return (R72, R75). -/
theorem usesStep_of_ret16 {r : State} {v : Half} (hr : r.cfg = s.cfg ∧ r.cmd = s.cmd ∧ r.b = s.b)
    (hp : s.ph = .r16H2 ∨ s.ph = .r16Rst) (h : ret16 v r = .next t) : usesStep s t := by
  obtain ⟨hcfg, hcmd, hb⟩ := hr
  obtain ⟨hmost, hfewest⟩ := ret16_left h
  rw [hcfg, hcmd] at hmost hfewest
  rw [hb] at hmost
  rw [usesStep, hmost, hfewest, mostLeft, fewestLeft]
  obtain hp | hp := hp <;> rw [hp, mostFrom, fewestFrom] <;> omega

/-- The last step of a READWIDE is used up by its return (R79, R82). -/
theorem usesStep_of_retW {r : State} {v : Word} (hr : r.cmd = s.cmd) (hp : s.ph = .wO2 ∨ s.ph = .wRst)
    (h : retW v r = .next t) : usesStep s t := by
  obtain ⟨hmost, hfewest⟩ := retW_left h
  rw [hr] at hmost hfewest
  rw [usesStep, hmost, hfewest, mostLeft, fewestLeft]
  obtain hp | hp := hp <;> rw [hp, mostFrom, fewestFrom] <;> omega

/-- R16_H2 uses up one step: an attempt left pays for a retry (R72). -/
theorem phaseR16H2_usesStep (ha : s.a ≤ 3) (hp : s.ph = .r16H2) (h : phaseR16H2 s = .next t) : usesStep s t := by
  obtain ⟨-, h⟩ | ⟨-, -, h⟩ | ⟨-, -, h⟩ := phaseR16H2_cases h
  · exact usesStep_of_ret16 (by exact ⟨rfl, rfl, rfl⟩) (.inl hp) h.symm
  · cases h
    simp [usesStep, mostLeft, fewestLeft, hp, mostFrom, fewestFrom]
    omega
  · cases h
    simp [usesStep, mostLeft, fewestLeft, hp, mostFrom, fewestFrom]
    omega

/-- W_O1 uses up one step: the attempt that it starts is one of those left (R78). -/
theorem phaseWO1_usesStep (hw : readsWide s.cfg s.cmd = true) (hb : s.b ≤ 3) (hp : s.ph = .wO1)
    (h : phaseWO1 s = .next t) : usesStep s t := by
  cases h
  simp [usesStep, mostLeft, fewestLeft, hp, mostFrom, fewestFrom, mostAfter16_of_readsWide hw,
    fewestAfter16_of_readsWide hw]
  omega

/-- W_O2 uses up one step: an attempt left pays for a retry (R79). -/
theorem phaseWO2_usesStep (hp : s.ph = .wO2) (h : phaseWO2 s = .next t) : usesStep s t := by
  obtain ⟨-, h⟩ | ⟨-, -, h⟩ | ⟨-, -, h⟩ := phaseWO2_cases h
  · exact usesStep_of_retW (by exact rfl) (.inl hp) h.symm
  · cases h
    simp [usesStep, mostLeft, fewestLeft, hp, mostFrom, fewestFrom]
    omega
  · cases h
    simp [usesStep, mostLeft, fewestLeft, hp, mostFrom, fewestFrom]
    omega

/-- Every micro-step of a command in progress uses up one step. -/
theorem microStep_usesStep (hinv : BlockInv s) (hidle : s.ph ≠ .idle) (h : microStep s = .next t) : usesStep s t := by
  have hwide := readingWide_of_inv hinv
  unfold microStep at h
  cases hp : s.ph with rw [hp] at h hwide
  | idle => exact absurd hp hidle
  | r16H2 => exact phaseR16H2_usesStep (hinv.a_lt (by rw [hp]; rfl)) hp h
  | r16Rst => exact usesStep_of_ret16 (by exact ⟨rfl, rfl, rfl⟩) (.inr hp) h
  | wO1 => exact phaseWO1_usesStep (hwide rfl).wide (hinv.b_lt (hwide rfl).wide (.inl hp)) hp h
  | wO2 => exact phaseWO2_usesStep hp h
  | wRst => exact usesStep_of_retW (by exact rfl) (.inr hp) h
  | initX | conv =>
    cases h
    simp [usesStep, mostLeft, fewestLeft, hp, mostFrom, fewestFrom]
  | r16H1 | r16L | r16Sup | r16Smp | wSup | wSnp =>
    cases h
    simp [usesStep, mostLeft, fewestLeft, hp, mostFrom, fewestFrom]
    omega

/-! ### Along the moves of every agent -/

/-- While a command is in progress, a move that takes no READER step leaves the READER's elements. -/
theorem outsideOthers_of_not_takesReader {ev : Event} (hbusy : s.busy = true) (htakes : takesReader ev s = false)
    (h : runEvent ev s = .next t) : outsideOthers t = outsideOthers s := by
  cases took_of_runEvent h with
  | tick _ => exact countTick_outsideOthers s
  | notify _ => rfl
  | reader hr _ => exact absurd ((takesReader_iff _ s).2 ⟨rfl, hr⟩) (by simp [htakes])
  | accepted _ i hi =>
    obtain ⟨hidle, -⟩ := (issueFault_eq_none_iff _ _).1 hi
    exact absurd (hbusy.symm.trans hidle) Bool.noConfusion
  | nothing _ _ _ _ _ => rfl

/-- A move while a command is in progress uses up the READER step that it takes, if it takes one (R86(a)). -/
theorem runEvent_left {ev : Event} (hinv : BlockInv s) (hbusy : s.busy = true) (h : runEvent ev s = .next t) :
    mostLeft t + (if takesReader ev s then 1 else 0) ≤ mostLeft s ∧
    fewestLeft s ≤ fewestLeft t + (if takesReader ev s then 1 else 0) := by
  cases htakes : takesReader ev s with
  | true =>
    obtain ⟨rfl, hr⟩ := (takesReader_iff ev s).1 htakes
    exact microStep_usesStep hinv (hinv.busy_iff.1 hbusy) ((CounterReads.runEvent_reader_of_enabled hr).symm.trans h)
  | false =>
    have hframe := outsideOthers_of_not_takesReader hbusy htakes h
    have hmost : mostLeft t = mostLeft s := (congrArg mostLeft hframe :)
    have hfewest : fewestLeft t = fewestLeft s := (congrArg fewestLeft hframe :)
    exact ⟨hmost.le, hfewest.ge⟩

/-! ### At ISSUE and at completion (R62, R138) -/

/-- A command that has completed has no step left. -/
theorem fewestLeft_of_not_busy (hinv : BlockInv s) (hbusy : s.busy = false) : fewestLeft s = 0 := by
  rw [fewestLeft, SoundReads.idle_of_not_busy hinv hbusy]
  rfl

/-- NOWMS and NOWUS have the steps of their read and of CONV left, in either width (R94, R95). -/
theorem enterNow_left (hcmd : s.cmd = 0x06#8 ∨ s.cmd = 0x07#8) :
    mostLeft (enterNow s) = (if s.cfg.enWide then 72 else 16) ∧
    fewestLeft (enterNow s) = if s.cfg.enWide then 6 else 4 := by
  have hconv := convAfterRead_of_now hcmd
  cases hwide : s.cfg.enWide with
  | true =>
    rw [enterNow_of_wide hwide]
    simp [mostLeft, fewestLeft, mostFrom, fewestFrom, hconv]
  | false =>
    obtain ⟨hfewest, hmost⟩ := after16_of_narrow hwide hcmd s.b
    rw [enterNow_of_narrow hwide]
    simp [mostLeft, fewestLeft, mostFrom, fewestFrom, hfewest, hmost]

/-- An accepted command has the steps of its row of R138's table left. -/
theorem firstOf_accept_left (s : State) (i : Instr) :
    mostLeft (firstOf s i (accept (encode i).code i.operand s)) = mostSteps s.cfg i ∧
    fewestLeft (firstOf s i (accept (encode i).code i.operand s)) = fewestSteps s.cfg i := by
  cases i with
  | init | t2ms | t2us | readw => exact ⟨rfl, rfl⟩
  | read16 =>
    obtain ⟨hfewest, hmost⟩ := after16_of_read16 s.cfg s.b
    exact ⟨congrArg (15 + ·) hmost, congrArg (3 + ·) hfewest⟩
  | nowms => exact enterNow_left (.inl rfl)
  | nowus => exact enterNow_left (.inr rfl)

end Steps

end Sys2Proof.StepBounds
end

section
/-! PROOFS. Commands complete on fair schedules (spec/60_exceptions.md R123, R124). A command that never completes takes
only as many READER steps as it had left, so from some point on the READER waits for good (`exists_waitsFrom`); a fair
schedule lets it wait only while wraps and their notifications go on without end (`starved_of_waitsFrom`). -/

namespace Sys2Proof.Completion

open Sys2Proof.Machine Sys2Proof.Safety Sys2Proof.Scope Sys2Proof.Invariants Sys2Proof.Overflow Sys2Proof.StepBounds

/-! ### The run of an infinite schedule -/

/-- Schedules run one after the other. -/
theorem runSchedule_append {evs₁ : List Event} {s u : State} (h : runSchedule evs₁ s = some u) (evs₂ : List Event) :
    runSchedule (evs₁ ++ evs₂) s = runSchedule evs₂ u := by
  induction evs₁ generalizing s with
  | nil => cases h; rfl
  | cons ev evs₁ ih =>
    obtain ⟨v, hv, h⟩ := runSchedule_cons_eq_some.1 h
    rw [List.cons_append, runSchedule, hv]
    exact ih h

section Run

variable {schedule : Nat → Event} {s : State} (hinv : BlockInv s)

/-- The state after one more move that answers. -/
theorem trace_succ_of_next {n : Nat} {t : State} (h : runEvent (schedule n) (trace schedule s n) = .next t) :
    trace schedule s (n + 1) = t := by
  rw [trace, h]

include hinv

/-- The structural invariant holds all along. -/
theorem trace_inv (n : Nat) : BlockInv (trace schedule s n) := by
  induction n with
  | zero => exact hinv
  | succ n ih =>
    obtain ⟨t, ht⟩ := Progress.exists_runEvent ih (schedule n)
    rw [trace_succ_of_next ht]
    exact runEvent_keeps_inv ih ht

/-- Under the invariant no move stops the run. -/
theorem runEvent_trace (n : Nat) :
    runEvent (schedule n) (trace schedule s n) = .next (trace schedule s (n + 1)) := by
  obtain ⟨t, ht⟩ := Progress.exists_runEvent (trace_inv hinv n) (schedule n)
  rw [trace_succ_of_next ht, ht]

theorem runSchedule_firstMoves (n : Nat) : runSchedule (firstMoves schedule n) s = some (trace schedule s n) := by
  induction n with
  | zero => rfl
  | succ n ih =>
    rw [firstMoves, List.range_succ, List.map_append]
    refine (runSchedule_append ih _).trans ?_
    exact runSchedule_cons_eq_some.2 ⟨_, runEvent_trace hinv n, rfl⟩

/-- The READER steps of the first moves, one move further. -/
theorem readerTaken_firstMoves_succ (n : Nat) : readerTaken (firstMoves schedule (n + 1)) s =
    readerTaken (firstMoves schedule n) s + if takesReader (schedule n) (trace schedule s n) then 1 else 0 := by
  rw [firstMoves, List.range_succ, List.map_append]
  refine (MonotoneReads.countAlong_append _ (runSchedule_firstMoves hinv n) _).trans ?_
  exact congrArg (_ + ·) (Frames.countAlong_cons_of_next (runEvent_trace hinv n) _ _)

end Run

/-! ### A command in progress (R124) -/

/-- A command is in progress in a fault-free block. -/
def inProgress (s : State) : Prop :=
  s.flt = 0#3 ∧ s.busy = true

/-- What ends it: it completes, or the host raises a fault (R124). -/
theorem ended_iff (s : State) : mayEnd s ∨ s.flt ≠ 0#3 ↔ ¬inProgress s := by
  by_cases hflt : s.flt = 0#3 <;> simp [mayEnd, inProgress, hflt]

section Bounds

variable {schedule : Nat → Event} {s : State} (hinv : BlockInv s)
include hinv

/-- While the command is in progress, each READER step taken is one of those that were left (R86(a)). -/
theorem readerTaken_left {n : Nat} (h : ∀ m < n, inProgress (trace schedule s m)) :
    readerTaken (firstMoves schedule n) s + mostLeft (trace schedule s n) ≤ mostLeft s ∧
    fewestLeft s ≤ readerTaken (firstMoves schedule n) s + fewestLeft (trace schedule s n) := by
  induction n with
  | zero => exact ⟨(Nat.zero_add _).le, (Nat.zero_add _).ge⟩
  | succ n ih =>
    obtain ⟨hmost, hfewest⟩ := ih fun m hm => h m (hm.trans n.lt_succ_self)
    obtain ⟨hmost', hfewest'⟩ := runEvent_left (trace_inv hinv n) (h n n.lt_succ_self).2 (runEvent_trace hinv n)
    rw [readerTaken_firstMoves_succ hinv]
    omega

/-- A command that ends does so within its bounds: at the first such point it has taken steps that were left, and if it
has completed, all of the fewest (R138). -/
theorem completesWithinBounds_of_ended {i : Instr} (hmost : mostLeft s = mostSteps s.cfg i)
    (hfewest : fewestLeft s = fewestSteps s.cfg i) (hend : ∃ n, ¬inProgress (trace schedule s n)) :
    CompletesWithinBounds schedule i s := by
  classical
  obtain ⟨hmost', hfewest'⟩ := readerTaken_left hinv fun m hm => not_not.1 (Nat.find_min hend hm)
  refine ⟨Nat.find hend, (ended_iff _).2 (Nat.find_spec hend), by omega, fun hdone => ?_⟩
  rw [fewestLeft_of_not_busy (trace_inv hinv _) hdone.2] at hfewest'
  omega

/-- A command that is in progress for good leaves the READER waiting for good: each READER step lowers the most steps
left, which reach a minimum. -/
theorem exists_waitsFrom (h : ∀ n, inProgress (trace schedule s n)) : ∃ n, waitsFrom schedule s n := by
  have hstep (n : Nat) := (runEvent_left (trace_inv hinv n) (h n).2 (runEvent_trace hinv n)).1
  have hanti : Antitone fun n => mostLeft (trace schedule s n) :=
    antitone_nat_of_succ_le fun n => (Nat.le_add_right _ _).trans (hstep n)
  obtain ⟨least, hleast⟩ : ∃ n, ∀ m, mostLeft (trace schedule s n) ≤ mostLeft (trace schedule s m) :=
    ⟨_, fun m => Function.argmin_le (fun n => mostLeft (trace schedule s n)) m⟩
  refine ⟨least, fun m hm => ⟨?_, ?_⟩⟩
  · obtain ⟨hflt, hbusy⟩ := h m
    have hidle := (trace_inv hinv m).busy_iff.1 hbusy
    simp [readerPending, faultFree, hflt, hidle]
  · cases htakes : takesReader (schedule m) (trace schedule s m) with
    | false => rfl
    | true =>
      have hlower := hstep m
      rw [htakes, if_pos rfl] at hlower
      have hle : mostLeft (trace schedule s m) ≤ mostLeft (trace schedule s least) := hanti hm
      have hmin := hleast (m + 1)
      omega

end Bounds

/-! ### Moves while the READER waits (R109 to R112) -/

section Moves

variable {ev : Event} {s t : State}

theorem busy_of_pending (hinv : BlockInv s) (h : readerPending s = true) : s.busy = true := by
  obtain ⟨-, hidle⟩ : faultFree s = true ∧ s.ph ≠ .idle := by simpa [readerPending] using h
  exact hinv.busy_iff.2 hidle

/-- A TICK clears no notification (R108, R109). -/
theorem notifyEnabled_countTick (h : notifyEnabled s = true) : notifyEnabled (countTick s) = true := by
  obtain ⟨harmed, -, hsup⟩ := (Notification.notifyEnabled_iff s).1 h
  unfold countTick
  split
  · exact (Notification.notifyEnabled_iff _).2 ⟨harmed, rfl, hsup⟩
  · exact h

/-- While the READER waits, a notification that is enabled stays enabled until it is taken (R109, R110). -/
theorem notifyEnabled_of_waiting (hbusy : s.busy = true) (hreader : takesReader ev s = false)
    (hnotify : takesNotify ev s = false) (hn : notifyEnabled s = true) (h : runEvent ev s = .next t) :
    notifyEnabled t = true := by
  cases took_of_runEvent h with
  | tick _ => exact notifyEnabled_countTick hn
  | notify hn' => exact absurd (hnotify.symm.trans hn') Bool.noConfusion
  | reader hr _ => exact absurd (hreader.symm.trans hr) Bool.noConfusion
  | accepted _ i hi =>
    obtain ⟨hidle, -⟩ := (issueFault_eq_none_iff _ _).1 hi
    exact absurd (hbusy.symm.trans hidle) Bool.noConfusion
  | nothing _ _ _ _ _ => exact hn

/-- While the READER waits, only a wrap sets PEND (R109). -/
theorem pend_of_waiting (hbusy : s.busy = true) (hreader : takesReader ev s = false) (htick : takesTick ev s = false)
    (hpend : s.pend = false) (h : runEvent ev s = .next t) : t.pend = false := by
  cases took_of_runEvent h with
  | tick ht => exact absurd (htick.symm.trans ht) Bool.noConfusion
  | notify _ => rfl
  | reader hr _ => exact absurd (hreader.symm.trans hr) Bool.noConfusion
  | accepted _ i hi =>
    obtain ⟨hidle, -⟩ := (issueFault_eq_none_iff _ _).1 hi
    exact absurd (hbusy.symm.trans hidle) Bool.noConfusion
  | nothing _ _ _ _ _ => exact hpend

end Moves

/-! ### A READER that waits for good is starved (R123) -/

section Waiting

variable {schedule : Nat → Event} {s : State} {n : Nat} (hinv : BlockInv s) (hwait : waitsFrom schedule s n)
include hinv hwait

theorem busy_of_waits {m : Nat} (hm : n ≤ m) : (trace schedule s m).busy = true :=
  busy_of_pending (trace_inv hinv m) (hwait m hm).1

/-- Without NOTIFY steps an enabled notification stays enabled. -/
theorem notifyEnabled_onward {k : Nat} (hk : n ≤ k) (hn : notifyEnabled (trace schedule s k) = true)
    (hnone : ∀ m, k ≤ m → takesNotify (schedule m) (trace schedule s m) = false) :
    ∀ m, k ≤ m → notifyEnabled (trace schedule s m) = true := by
  intro m hm
  induction m, hm using Nat.le_induction with
  | base => exact hn
  | succ m hm ih =>
    have hnm := hk.trans hm
    exact notifyEnabled_of_waiting (busy_of_waits hinv hwait hnm) (hwait m hnm).2 (hnone m hm) ih (runEvent_trace hinv m)

/-- Without TICK steps PEND stays clear. -/
theorem pend_onward {k : Nat} (hk : n ≤ k) (hpend : (trace schedule s k).pend = false)
    (hnone : ∀ m, k ≤ m → takesTick (schedule m) (trace schedule s m) = false) :
    ∀ m, k ≤ m → (trace schedule s m).pend = false := by
  intro m hm
  induction m, hm using Nat.le_induction with
  | base => exact hpend
  | succ m hm ih =>
    have hnm := hk.trans hm
    exact pend_of_waiting (busy_of_waits hinv hwait hnm) (hwait m hnm).2 (hnone m hm) ih (runEvent_trace hinv m)

/-- NOTIFY steps go on without end: after the last one NOTIFY or the READER would stay enabled, and be taken. -/
theorem exists_takesNotify (hfair : FairRun schedule s) (k : Nat) :
    ∃ m, k ≤ m ∧ takesNotify (schedule m) (trace schedule s m) = true := by
  by_contra hnone
  have hnone (m : Nat) (hm : k ≤ m) : takesNotify (schedule m) (trace schedule s m) = false := by
    simpa using fun h => hnone ⟨m, hm, h⟩
  by_cases hn : ∃ j, max n k ≤ j ∧ notifyEnabled (trace schedule s j) = true
  · obtain ⟨j, hj, hn⟩ := hn
    have hkj := (le_max_right n k).trans hj
    have hon := notifyEnabled_onward hinv hwait ((le_max_left n k).trans hj) hn fun m hm => hnone m (hkj.trans hm)
    obtain ⟨m, hm, hmove⟩ := hfair.notify j hon
    have htaken := hnone m (hkj.trans hm)
    rw [takesNotify, hmove, hon m hm] at htaken
    cases htaken
  · have hon (m : Nat) (hm : max n k ≤ m) : readerEnabled (trace schedule s m) = true :=
      (readerPending_cases (hwait m ((le_max_left n k).trans hm)).1).resolve_right fun h => hn ⟨m, hm, h⟩
    obtain ⟨m, hm, hmove⟩ := hfair.reader _ hon
    have htaken := (hwait m ((le_max_left n k).trans hm)).2
    rw [takesReader, hmove, hon m hm] at htaken
    cases htaken

/-- TICK steps go on without end: after the last one NOTIFY would be taken at most once more. -/
theorem exists_takesTick (hfair : FairRun schedule s) (k : Nat) :
    ∃ m, k ≤ m ∧ takesTick (schedule m) (trace schedule s m) = true := by
  by_contra hnone
  have hnone (m : Nat) (hm : k ≤ m) : takesTick (schedule m) (trace schedule s m) = false := by
    simpa using fun h => hnone ⟨m, hm, h⟩
  obtain ⟨j, hj, htaken⟩ := exists_takesNotify hinv hwait hfair (max n k)
  have hpend : (trace schedule s (j + 1)).pend = false := by
    obtain ⟨hmove, hn⟩ : schedule j = .notify ∧ notifyEnabled (trace schedule s j) = true := by
      simpa [takesNotify] using htaken
    rw [trace_succ_of_next (hmove ▸ Notification.runEvent_notify_of_enabled hn), takeNotification_pend]
  have hclear := pend_onward hinv hwait (by omega) hpend fun m hm => hnone m (by omega)
  obtain ⟨m, hm, htaken⟩ := exists_takesNotify hinv hwait hfair (j + 1)
  simp [takesNotify, notifyEnabled, hclear m hm] at htaken

/-- A fair schedule lets the READER wait for good only by wraps and notifications without end. -/
theorem starved_of_waitsFrom (hfair : FairRun schedule s) : Starved schedule s :=
  ⟨n, hwait, exists_takesTick hinv hwait hfair, exists_takesNotify hinv hwait hfair⟩

end Waiting

/-! ### ISSUE, and a block whose channel is not armed (R18, R61) -/

/-- A command that ISSUE has set going has its steps left, by R138's table. -/
theorem inv_left_of_exec {i : Instr} {s₀ s : State} (hinv : BlockInv s₀) (hidle : s₀.busy = false)
    (hexec : exec i s₀ = .next s) (hbusy : s.busy = true) :
    BlockInv s ∧ mostLeft s = mostSteps s.cfg i ∧ fewestLeft s = fewestSteps s.cfg i := by
  rw [exec_eq_issue] at hexec
  obtain ⟨-, h⟩ | ⟨f, -, -, h⟩ | ⟨-, hi, h⟩ := issue_cases hexec <;> cases h
  · exact absurd (hidle.symm.trans hbusy) Bool.noConfusion
  · exact absurd (hidle.symm.trans hbusy) Bool.noConfusion
  · rw [firstOf_cfg]
    exact ⟨firstOf_accept_keeps_inv hinv hi, firstOf_accept_left s₀ i⟩

/-- While a command stays in progress nothing arms the channel: INIT_X completes (R18, R66). -/
theorem armed_of_busy {ev : Event} {s t : State} (hbusy : t.busy = true) (h : runEvent ev s = .next t) :
    t.armed = s.armed := by
  obtain heq | ⟨-, rfl | rfl⟩ | ⟨-, rfl⟩ | ⟨-, -, rfl⟩ := Writers.runEvent_sharedElements h
  · obtain ⟨-, -, -, harmed, -⟩ := (Writers.sharedElements_eq_iff s t).1 heq
    exact harmed
  · rfl
  · rfl
  · rfl
  · cases hbusy

section Endings

variable {schedule : Nat → Event} {s : State} (hinv : BlockInv s)
include hinv

/-- On a fair schedule a command ends, or the READER is starved. -/
theorem ended_or_starved (hfair : FairRun schedule s) :
    (∃ n, ¬inProgress (trace schedule s n)) ∨ Starved schedule s := by
  refine or_iff_not_imp_left.2 fun hnever => ?_
  obtain ⟨n, hwait⟩ := exists_waitsFrom hinv fun n => not_not.1 fun h => hnever ⟨n, h⟩
  exact starved_of_waitsFrom hinv hwait hfair

/-- In a block whose channel is not armed no NOTIFY step is taken while a command stays in progress. -/
theorem takesNotify_of_not_armed (harmed : s.armed = false) (h : ∀ n, inProgress (trace schedule s n)) (n : Nat) :
    takesNotify (schedule n) (trace schedule s n) = false := by
  have hoff : (trace schedule s n).armed = false := by
    induction n with
    | zero => exact harmed
    | succ n ih => rw [armed_of_busy (h (n + 1)).2 (runEvent_trace hinv n), ih]
  simp [takesNotify, notifyEnabled, hoff]

/-- A command ends on a fair schedule that takes finitely many NOTIFY steps while it is in progress. -/
theorem ended_of_notifies (hfair : FairRun schedule s)
    (hfinite : (∀ n, inProgress (trace schedule s n)) →
      ∃ n, ∀ m, n ≤ m → takesNotify (schedule m) (trace schedule s m) = false) :
    ∃ n, ¬inProgress (trace schedule s n) := by
  by_contra hnever
  obtain ⟨k, hk⟩ := hfinite fun n => not_not.1 fun h => hnever ⟨n, h⟩
  obtain ⟨n, -, -, hnotifies⟩ := (ended_or_starved hinv hfair).resolve_left hnever
  obtain ⟨m, hm, htaken⟩ := hnotifies k
  rw [hk m hm] at htaken
  cases htaken

end Endings

/-! ### The obligations -/

/-- Settles O60: by the steps left a command that ends does so within its bounds, and one that does not end starves its
READER, which each of the premises rules out. -/
theorem commandsCompleteUnderWeakFairness : Obligations.CommandsCompleteUnderWeakFairness := by
  refine ⟨fun schedule i s₀ s hinv₀ hidle hexec hbusy hfair => ?_, fun schedule s hinv hflt hbusy hfair hwhy => ?_⟩
  · obtain ⟨hinv, hmost, hfewest⟩ := inv_left_of_exec hinv₀ hidle hexec hbusy
    have hor := (ended_or_starved hinv hfair).imp_left (completesWithinBounds_of_ended hinv hmost hfewest)
    exact ⟨fun h => hor.resolve_right (not_starved_of_ticksNumbered h),
      fun h => hor.resolve_right (not_starved_of_scheduled h), hor⟩
  · simp only [ended_iff]
    refine ended_of_notifies hinv hfair fun hprogress => ?_
    obtain hnarrow | hinit | hnotifies := hwhy
    · exact ⟨0, fun m _ => takesNotify_of_not_armed hinv (by simp [hinv.armed_eq, hnarrow]) hprogress m⟩
    · exact ⟨0, fun m _ => takesNotify_of_not_armed hinv (by simp [hinv.armed_eq, hinit]) hprogress m⟩
    · exact hnotifies

/-- Settles O56: a READER that waits is enabled again and again, since a notification that it waits on is taken. -/
theorem commandsCompleteUnderStrongFairness : Obligations.CommandsCompleteUnderStrongFairness := by
  intro schedule s hinv _ _ hnotify hreader
  simp only [ended_iff]
  by_contra hnever
  obtain ⟨n, hwait⟩ := exists_waitsFrom hinv fun n => not_not.1 fun h => hnever ⟨n, h⟩
  have hagain (k : Nat) : ∃ m, k ≤ m ∧ readerEnabled (trace schedule s m) = true := by
    by_contra hnone
    have hon (m : Nat) (hm : max n k ≤ m) : notifyEnabled (trace schedule s m) = true :=
      (readerPending_cases (hwait m ((le_max_left n k).trans hm)).1).resolve_left fun h =>
        hnone ⟨m, (le_max_right n k).trans hm, h⟩
    obtain ⟨m, hm, hmove⟩ := hnotify _ hon
    have hnext := hon (m + 1) (by omega)
    rw [trace_succ_of_next (hmove ▸ Notification.runEvent_notify_of_enabled (hon m hm)),
      Notification.notifyEnabled_takeNotification] at hnext
    cases hnext
  obtain ⟨m, hm, hmove, hen⟩ := hreader hagain n
  have htaken := (hwait m hm).2
  rw [takesReader, hmove, hen] at htaken
  cases htaken

end Sys2Proof.Completion
end

section
/-! PROOFS. A schedule that is weakly fair to NOTIFY and to the READER, and yet completes no command (spec/60_exceptions.md
R108, R112, R123; log 18): 65536 TICK steps and one NOTIFY step by turns. HW wraps at the last TICK of each turn, so
once in each turn NOTIFY holds the READER up. -/

namespace Sys2Proof.Starvation

open Sys2Proof.Machine Sys2Proof.Safety Sys2Proof.Overflow Sys2Proof.Notification

/-- 65536 TICK moves and one NOTIFY move by turns. -/
def byTurns (n : Nat) : Event :=
  if n % 65537 = 65536 then .notify else .tick

/-- A wide block with a READ16 at its first step and the counter at 0. -/
def waitingRead : State :=
  { State.reset with ps := psel 1024, initd := true, armed := true, busy := true, cmd := 0x02#8, ph := .r16H1 }

theorem countTick_flt (s : State) : (countTick s).flt = s.flt := by
  unfold countTick
  split <;> rfl

/-- The run by turns after `n` moves: HW counts the TICKs of the turn, and at the end of the turn a wrap is pending. -/
structure AtTurn (n : Nat) (s : State) : Prop where
  others : outsideOthers s = outsideOthers waitingRead
  flt : s.flt = 0#3
  hw : s.hw = BitVec.ofNat 16 (n % 65537)
  pend : n % 65537 = 65536 → s.pend = true

section Turns

variable {n : Nat} {s : State}

/-- The counter runs all along (R108). -/
theorem AtTurn.ps (h : AtTurn n s) : s.ps = 5#3 := (congrArg State.ps h.others :)

theorem AtTurn.busy (h : AtTurn n s) : s.busy = true := (congrArg State.busy h.others :)

/-- At the end of a turn NOTIFY is enabled (R110). -/
theorem AtTurn.notifyEnabled (h : AtTurn n s) (hn : n % 65537 = 65536) : notifyEnabled s = true :=
  (notifyEnabled_iff s).2 ⟨(congrArg State.armed h.others :), h.pend hn, (congrArg State.sup h.others :)⟩

/-- A TICK within the turn; the last one wraps HW. -/
theorem AtTurn.countTick (h : AtTurn n s) (hn : n % 65537 ≠ 65536) : AtTurn (n + 1) (countTick s) where
  others := (countTick_outsideOthers s).trans h.others
  flt := (countTick_flt s).trans h.flt
  hw := by
    have hmod : (n + 1) % 65537 = n % 65537 + 1 := by omega
    rw [countTick_hw, h.hw, hmod, BitVec.ofNat_add]
  pend hlast := by
    have hmod : n % 65537 = 65535 := by omega
    have hmax : s.hw = 0xFFFF#16 := by rw [h.hw, hmod]
    rw [countTick_of_maximum hmax, wrapCounter_pend]

/-- The NOTIFY at the end of a turn begins the next, with HW at 0. -/
theorem AtTurn.takeNotification (h : AtTurn n s) (hn : n % 65537 = 65536) : AtTurn (n + 1) (takeNotification s) where
  others := h.others
  flt := h.flt
  hw := by
    have hmod : (n + 1) % 65537 = 0 := by omega
    rw [takeNotification_hw, h.hw, hn, hmod]
    rfl
  pend hlast := by omega

/-- The move of the turn is taken, and the next move finds its turn. -/
theorem AtTurn.runEvent (h : AtTurn n s) : ∃ t, runEvent (byTurns n) s = .next t ∧ AtTurn (n + 1) t := by
  unfold byTurns
  split
  next hn => exact ⟨_, runEvent_notify_of_enabled (h.notifyEnabled hn), h.takeNotification hn⟩
  next hn =>
    have hps := h.ps
    exact ⟨_, runEvent_tick_of_enabled (by simp [tickEnabled, hps]) (by simp [hps]) (by simp [hps]), h.countTick hn⟩

end Turns

/-- The run by turns, all along. -/
theorem atTurn_trace (n : Nat) : AtTurn n (trace byTurns waitingRead n) := by
  induction n with
  | zero => exact ⟨rfl, rfl, rfl, nofun⟩
  | succ n ih =>
    obtain ⟨t, ht, hnext⟩ := ih.runEvent
    rwa [Completion.trace_succ_of_next ht]

/-- After any number of moves a turn will end. -/
theorem exists_turn_end (n : Nat) : ∃ m, n ≤ m ∧ m % 65537 = 65536 :=
  ⟨65537 * n + 65536, by omega, by omega⟩

/-- NOTIFY is taken at the end of every turn. -/
theorem weaklyFair_notify : WeaklyFair .notify notifyEnabled byTurns waitingRead := by
  intro n _
  obtain ⟨m, hm, hend⟩ := exists_turn_end n
  exact ⟨m, hm, if_pos hend⟩

/-- The READER is never enabled for good: NOTIFY holds it up at the end of every turn (R112). -/
theorem weaklyFair_reader : WeaklyFair .reader readerEnabled byTurns waitingRead := by
  intro n hon
  obtain ⟨m, hm, hend⟩ := exists_turn_end n
  have hheld := hon m hm
  rw [readerEnabled_eq_pending, (atTurn_trace m).notifyEnabled hend] at hheld
  simp at hheld

theorem waitingRead_inv : BlockInv waitingRead := by
  constructor <;> decide

/-- Settles O57: the READ16 waits through every turn. -/
theorem weakFairnessAloneDoesNotComplete : Obligations.WeakFairnessAloneDoesNotComplete :=
  ⟨byTurns, waitingRead, waitingRead_inv, rfl, rfl, rfl, weaklyFair_notify, weaklyFair_reader,
    fun n => ⟨(atTurn_trace n).busy, (atTurn_trace n).flt⟩⟩

end Sys2Proof.Starvation
end

section
/-! PROOFS. No torn read from a clean entry under the hazard premises (spec/70_reset_and_hazards.md R140,
spec/41_counter_reads.md R84, R85). `SoundRead` says what the reads hold of their samples at every point of such a run;
here it is carried through to the ghost flags, which stay clear, and to the result, which is the truth sampled. -/

namespace Sys2Proof.TornFreeReads

open Sys2Proof.Machine Sys2Proof.Safety Sys2Proof.Scope Sys2Proof.Invariants Sys2Proof.Overflow Sys2Proof.SoundReads
open Sys2Proof.ConverterCommands

/-! ### What a torn-free block has returned -/

/-- NOWMS and NOWUS hold the truth of their read until CONV and return its conversion; READ16 returns the truth of its
own read (R76, R83, R96). -/
def returnsTruth (s : State) : Prop :=
  match s.ph with
  | .conv => s.cmd = 0x06#8 ∨ s.cmd = 0x07#8 → s.vt = sampledTruth s
  | .idle => (s.cmd = 0x02#8 → s.res = zext s.gt16) ∧
      (s.cmd = 0x06#8 ∨ s.cmd = 0x07#8 → s.res = converted { s with vt := sampledTruth s })
  | .initX | .r16H1 | .r16L | .r16H2 | .r16Sup | .r16Smp | .r16Rst | .wO1 | .wO2 | .wSup | .wSnp | .wRst => True

/-- No torn value has been accepted, and the reads return the truth. -/
def untorn (s : State) : Prop :=
  s.hzTorn16 = false ∧ s.hzTornW = false ∧ returnsTruth s

/-- What a run from a clean entry under the hazard premises keeps. -/
structure TornFree (s : State) (m : Monitor) : Prop extends SoundRead s m where
  untorn : untorn s

section Steps

variable {s t : State} {m : Monitor}

/-- The commands that enter CONV (R96). -/
theorem cmd_of_conv (hinv : BlockInv s) (hp : s.ph = .conv) :
    s.cmd = 0x04#8 ∨ s.cmd = 0x05#8 ∨ s.cmd = 0x06#8 ∨ s.cmd = 0x07#8 := by
  have hphase := hinv.cmd_phase (by simp [hp])
  simpa [hp, phaseOfCommand, or_assoc] using hphase

theorem sampledTruth_of_wide (h : s.cfg.enWide = true) : sampledTruth s = s.gtw := if_pos h

theorem sampledTruth_of_narrow (h : s.cfg.enWide = false) : sampledTruth s = zext s.gt16 := if_neg (by simp [h])

/-! ### The READER's steps -/

/-- Accepting the truth leaves HZ_TORN16 clear (R72). -/
theorem torn16After_truth (h : s.hzTorn16 = false) {v : Half} (hv : v = s.gt16) : torn16After s v = false := by
  simp [torn16After, h, hv]

/-- Returning the truth leaves HZ_TORNW clear (R79, R81). -/
theorem tornWAfter_truth (h : s.hzTornW = false) {v w : Word} (hv : v = w) : tornWAfter s v w = false := by
  simp [tornWAfter, h, hv]

/-- A READ16 that hands over the truth leaves it with the command (R76). -/
theorem ret16_untorn {v : Half} (h16 : s.hzTorn16 = false) (hW : s.hzTornW = false) (hv : v = s.gt16)
    (h : ret16 v s = .next t) : untorn t := by
  obtain ⟨hcmd, h⟩ | ⟨-, -, h⟩ | ⟨hnarrow, -, h⟩ | ⟨-, h⟩ := ret16_cases h <;> cases h
  · refine ⟨h16, hW, fun _ => congrArg zext hv, fun hnow => ?_⟩
    simp [hcmd] at hnow
  · exact ⟨h16, hW, trivial⟩
  · exact ⟨h16, hW, fun _ => (congrArg zext hv).trans (sampledTruth_of_narrow hnarrow).symm⟩

/-- A READWIDE that hands over the truth leaves it with the command (R83). -/
theorem retW_untorn {v : Word} (h16 : s.hzTorn16 = false) (hW : s.hzTornW = false) (hwide : s.cfg.enWide = true)
    (hv : v = s.gtw) (h : retW v s = .next t) : untorn t := by
  obtain ⟨hcmd, h⟩ | ⟨-, h⟩ | ⟨-, h⟩ := retW_cases h <;> cases h
  · refine ⟨h16, hW, fun hcmd' => ?_, fun hnow => ?_⟩
    · simp [hcmd] at hcmd'
    · simp [hcmd] at hnow
  · exact ⟨h16, hW, fun _ => hv.trans (sampledTruth_of_wide hwide).symm⟩

/-- R16_H2 accepts nothing but the truth within 65280 ticks of the first sample (R72, R84). -/
theorem phaseR16H2_untorn (r : TornFree s m) (hp : s.ph = .r16H2) (hk : m.attemptTicks ≤ 65280)
    (h : phaseR16H2 s = .next t) : untorn t := by
  obtain ⟨h16, hW, -⟩ := r.untorn
  obtain ⟨hagree, h⟩ | ⟨-, -, h⟩ | ⟨-, -, h⟩ := phaseR16H2_cases h
  · have hv := joinBytes_eq_gt16 r.read16 hp hk hagree
    exact ret16_untorn (s := accept16 _ (recheck16 s)) (torn16After_truth (s := recheck16 s) h16 hv) hW hv h.symm
  · cases h
    exact ⟨h16, hW, trivial⟩
  · cases h
    exact ⟨h16, hW, trivial⟩

/-- A READWIDE runs in a wide block (R54, R62). -/
theorem readsWide_of_ph (hinv : BlockInv s) (hp : readWidePhase s.ph = true) :
    readsWide s.cfg s.cmd = true ∧ s.cfg.enWide = true := by
  have hw := (readingWide_of_inv hinv hp).wide
  exact ⟨hw, enWide_of_readsWide hinv (by intro hidle; rw [hidle] at hp; cases hp) hw⟩

/-- W_O2 accepts nothing but the truth within 65535 notifications of W_O1 (R79, R85). -/
theorem phaseWO2_untorn (r : TornFree s m) (hr : readerEnabled s = true) (hp : s.ph = .wO2)
    (hn : m.attemptNotifies < 65536) (h : phaseWO2 s = .next t) : untorn t := by
  obtain ⟨h16, hW, -⟩ := r.untorn
  obtain ⟨hw, hwide⟩ := readsWide_of_ph r.inv (by rw [hp]; rfl)
  obtain ⟨hagree, h⟩ | ⟨-, -, h⟩ | ⟨-, -, h⟩ := phaseWO2_cases h
  · have hsup : s.sup = false := by rw [r.inv.sup_eq, hp]; rfl
    have hpend := pend_of_readerEnabled (armed_of_wide r.inv r.initd hwide) hr hsup
    have hread16 := r.read16
    have hreadWide := r.readWide hw
    rw [sampled16, hp] at hread16
    rw [sampledWide, hp] at hreadWide
    have hv := extended_eq_gtw hn hagree hpend hread16 hreadWide
    exact retW_untorn (s := acceptW _ (recheckW s)) h16 (tornWAfter_truth (s := recheckW s) hW hv) hwide hv h.symm
  · cases h
    exact ⟨h16, hW, trivial⟩
  · cases h
    exact ⟨h16, hW, trivial⟩

/-- CONV converts the truth that the read left in VT (R96). -/
theorem phaseConv_untorn (hinv : BlockInv s) (hu : untorn s) (hp : s.ph = .conv) (h : phaseConv s = .next t) :
    untorn t := by
  cases h
  obtain ⟨h16, hW, hvt⟩ := hu
  rw [returnsTruth, hp] at hvt
  refine ⟨h16, hW, fun (hcmd : s.cmd = 0x02#8) => ?_, fun hnow => ?_⟩
  · have hcodes := cmd_of_conv hinv hp
    simp [hcmd] at hcodes
  · have hconverted : converted s = converted { s with vt := sampledTruth s } := by rw [← hvt hnow]
    exact hconverted

/-- Every READER step that keeps the premises leaves the block untorn. -/
theorem microStep_untorn (r : TornFree s m) (hz : hazardsKeptAt .reader s m = true) (hr : readerEnabled s = true)
    (h : microStep s = .next t) : untorn t := by
  obtain ⟨h16, hW, -⟩ := r.untorn
  obtain ⟨-, hidle, -⟩ := (readerEnabled_iff s).1 hr
  have hread16 := r.read16
  have hwide := readsWide_of_ph r.inv
  unfold sampled16 at hread16
  unfold microStep at h
  cases hp : s.ph with rw [hp] at h hread16 hwide
  | idle => exact absurd hp hidle
  | initX => exact absurd hp (Frames.ph_ne_initX r.inv r.initd)
  | r16H2 => exact phaseR16H2_untorn r hp (attemptTicks_le hz hr hp) h
  | r16Rst => exact ret16_untorn (s := { s with sup := false }) h16 hW hread16 h
  | wO2 => exact phaseWO2_untorn r hr hp (attemptNotifies_lt hz hr hp) h
  | wSnp =>
    cases h
    have hsnap := snapshotTick_eq_trueTick (r.counted r.initd (hwide rfl).2 r.lost)
    exact ⟨h16, tornWAfter_truth hW hsnap, trivial⟩
  | wRst =>
    have hvt := r.readWide (hwide rfl).1
    rw [sampledWide, hp] at hvt
    exact retW_untorn (s := { s with sup := false }) h16 hW (hwide rfl).2 hvt h
  | conv => exact phaseConv_untorn r.inv r.untorn hp h
  | r16H1 | r16L | r16Sup | r16Smp | wO1 | wSup =>
    cases h
    exact ⟨h16, hW, trivial⟩

/-! ### The other agents' moves -/

/-- What makes a block untorn is told by elements that the other agents do not write. -/
theorem untorn_of_others (h : untorn s) (hframe : outsideOthers t = outsideOthers s) : untorn t := by
  have houtside : untorn (outsideOthers t) := hframe ▸ h
  exact houtside

/-- An accepted command has returned nothing yet (R62). -/
theorem firstOf_accept_returnsTruth (s : State) (i : Instr) :
    returnsTruth (firstOf s i (accept (encode i).code i.operand s)) := by
  cases i with
  | init | read16 | readw => trivial
  | t2ms | t2us => exact fun hnow => by simp [firstOf, encode] at hnow
  | nowms | nowus =>
    change returnsTruth (enterNow _)
    unfold enterNow
    split <;> trivial

theorem firstOf_accept_untorn (h : untorn s) (i : Instr) :
    untorn (firstOf s i (accept (encode i).code i.operand s)) := by
  have hreturns := firstOf_accept_returnsTruth s i
  obtain ⟨h16, hW, -⟩ := h
  obtain ⟨p, a, b, v, hfirst⟩ := Control.firstOf_frame s i (accept (encode i).code i.operand s)
  rw [hfirst] at hreturns ⊢
  exact ⟨h16, hW, hreturns⟩

/-! ### Along a run -/

/-- Every move that keeps the premises keeps the block torn-free. -/
theorem runEvent_keeps_tornFree {ev : Event} (r : TornFree s m) (hz : hazardsKeptAt ev s m = true)
    (h : runEvent ev s = .next t) : TornFree t (advanceMonitor ev s m) := by
  refine { r.toSoundRead.runEvent hz h with untorn := ?_ }
  cases took_of_runEvent h with
  | tick _ => exact untorn_of_others r.untorn (countTick_outsideOthers s)
  | reader hr hs => exact microStep_untorn r hz hr hs
  | accepted _ i _ => exact firstOf_accept_untorn r.untorn i
  | notify _ | nothing _ _ _ _ _ => exact untorn_of_others r.untorn rfl

theorem runSchedule_keeps_tornFree {evs : List Event} (r : TornFree s m) (hz : hazardsKept evs s m = true)
    (h : runSchedule evs s = some t) : ∃ m', TornFree t m' := by
  induction evs generalizing s m with
  | nil =>
    cases h
    exact ⟨m, r⟩
  | cons ev evs ih =>
    obtain ⟨u, hu, h⟩ := runSchedule_cons_eq_some.1 h
    simp only [hazardsKept, hu, Bool.and_eq_true] at hz
    exact ih (runEvent_keeps_tornFree r hz.1 hu) hz.2 h

/-- A clean block has returned nothing: CMD is INIT's (R140). -/
theorem tornFree_of_clean (h : Clean s) : TornFree s Monitor.start := by
  refine { soundRead_of_clean h with untorn := ⟨h.hzTorn16, h.hzTornW, ?_⟩ }
  rw [returnsTruth, h.ph]
  simp [h.cmd]

end Steps

/-- Settles O51: the run keeps the block torn-free, and with no command in progress RES is what the block returned. -/
theorem tornFreeUnderTheHazardPremises : Obligations.TornFreeUnderTheHazardPremises := by
  intro s u evs hclean hrun hz
  obtain ⟨m, r⟩ := runSchedule_keeps_tornFree (tornFree_of_clean hclean) hz hrun
  obtain ⟨h16, hW, hresult⟩ := r.untorn
  refine ⟨r.lost, h16, hW, fun hbusy => ?_⟩
  rw [returnsTruth, idle_of_not_busy r.inv hbusy] at hresult
  obtain ⟨hread16, hnow⟩ := hresult
  exact ⟨hread16, fun hcmd => r.res_of_readw hcmd hbusy,
    fun hcmd => (hnow (.inl hcmd)).trans (converted_of_ms (.inr hcmd)),
    fun hcmd => (hnow (.inr hcmd)).trans (converted_of_us (.inr hcmd))⟩

end Sys2Proof.TornFreeReads
end

section
/-! PROOFS. The two columns of R138 along every schedule (spec/70_reset_and_hazards.md R138, spec/41_counter_reads.md
R86(a)): the steps left of `StepBounds` are used up by the READER steps taken, before completion and, where no further
command is delivered, after it. -/

namespace Sys2Proof.ReaderSteps

open Sys2Proof.Machine Sys2Proof.Safety Sys2Proof.Scope Sys2Proof.Invariants Sys2Proof.Overflow Sys2Proof.StepBounds

section Moves

variable {s t u : State}

/-- A move that delivers no command and takes no READER step leaves the READER's elements. -/
theorem outsideOthers_of_bystander {ev : Event} (hissue : isIssue ev = false) (htakes : takesReader ev s = false)
    (h : runEvent ev s = .next t) : outsideOthers t = outsideOthers s := by
  cases took_of_runEvent h with
  | tick _ => exact countTick_outsideOthers s
  | reader hr _ => exact absurd (htakes.symm.trans hr) Bool.noConfusion
  | accepted _ _ _ => cases hissue
  | notify _ | nothing _ _ _ _ _ => rfl

/-- A move that delivers no command uses up the READER step that it takes, if it takes one: with no command in progress
there is none to take (R65). -/
theorem runEvent_left_of_noIssue {ev : Event} (hinv : BlockInv s) (hissue : isIssue ev = false)
    (h : runEvent ev s = .next t) :
    mostLeft t + (if takesReader ev s then 1 else 0) ≤ mostLeft s ∧
    fewestLeft s ≤ fewestLeft t + (if takesReader ev s then 1 else 0) := by
  cases htakes : takesReader ev s with
  | true =>
    obtain ⟨-, hr⟩ := (takesReader_iff ev s).1 htakes
    obtain ⟨-, hidle, -⟩ := (readerEnabled_iff s).1 hr
    have hleft := runEvent_left hinv (hinv.busy_iff.2 hidle) h
    rwa [htakes] at hleft
  | false =>
    have hframe := outsideOthers_of_bystander hissue htakes h
    have hmost : mostLeft t = mostLeft s := (congrArg mostLeft hframe :)
    have hfewest : fewestLeft t = fewestLeft s := (congrArg fewestLeft hframe :)
    exact ⟨hmost.le, hfewest.ge⟩

/-- A schedule that delivers no command uses up the READER steps that it takes (R86(a)). -/
theorem readerTaken_left_of_noIssue {evs : List Event} (hinv : BlockInv s) (hissue : noIssue evs)
    (h : runSchedule evs s = some u) :
    readerTaken evs s + mostLeft u ≤ mostLeft s ∧ fewestLeft s ≤ readerTaken evs s + fewestLeft u := by
  induction evs generalizing s with
  | nil =>
    cases h
    exact ⟨(Nat.zero_add _).le, (Nat.zero_add _).ge⟩
  | cons ev evs ih =>
    obtain ⟨t, ht, h⟩ := runSchedule_cons_eq_some.1 h
    obtain ⟨hev, hevs⟩ := List.forall_mem_cons.1 hissue
    obtain ⟨hmost, hfewest⟩ := runEvent_left_of_noIssue hinv hev ht
    obtain ⟨hmost', hfewest'⟩ := ih (runEvent_keeps_inv hinv ht) hevs h
    rw [readerTaken] at hmost' hfewest' ⊢
    rw [Frames.countAlong_cons_of_next ht]
    omega

/-- Every schedule keeps the structural invariant. -/
theorem runSchedule_keeps_inv {evs : List Event} (hinv : BlockInv s) (h : runSchedule evs s = some u) :
    BlockInv u := by
  induction evs generalizing s with
  | nil => cases h; exact hinv
  | cons ev evs ih =>
    obtain ⟨t, ht, h⟩ := runSchedule_cons_eq_some.1 h
    exact ih (runEvent_keeps_inv hinv ht) h

end Moves

/-- Settles O55: the accepted command starts with the two columns of its row left, and has nothing left once it has
completed. -/
theorem commandsTakeBoundedReaderSteps : Obligations.CommandsTakeBoundedReaderSteps := by
  intro i s t u evs hinv hidle hexec hbusy hissue hrun
  obtain ⟨hinv', hmost, hfewest⟩ := Completion.inv_left_of_exec hinv hidle hexec hbusy
  have hcfg : t.cfg = s.cfg := by
    rw [exec_eq_issue] at hexec
    exact issue_keeps_cfg (firstOf_cfg s i) hexec
  obtain ⟨hmost', hfewest'⟩ := readerTaken_left_of_noIssue hinv' hissue hrun
  rw [hmost, hcfg] at hmost'
  rw [hfewest, hcfg] at hfewest'
  refine ⟨by omega, fun hdone => ?_⟩
  rwa [fewestLeft_of_not_busy (runSchedule_keeps_inv hinv' hrun) hdone] at hfewest'

end Sys2Proof.ReaderSteps
end
